-- ==== Sys2Proof/Word.lean ====
section
/-!
DEFINITION. Words, small sets and index types of the DK-612, and element-wise maps over fixed-length tables
that Lean's kernel evaluates by plain list recursion.
-/
namespace Sys2Proof

/-- A byte of the clip store or of the seat bus. -/
abbrev Byte := BitVec 8

/-- A register or table word: 16 bits, bit 15 the most significant (10_record_and_register_layouts.md). -/
abbrev Word := BitVec 16

/-- A set of channels 0–11: member n sits in bit n (10_record_and_register_layouts.md). -/
abbrev ChannelSet := BitVec 12

/-- A set of lighting zones 0–7: member n sits in bit n. -/
abbrev ZoneSet := BitVec 8

/-- A language channel, 0–11. -/
abbrev ChannelNo := Fin 12

/-- A seat-bus segment, 0–5 (R128). -/
abbrev SegmentNo := Fin 6

/-- A seat, 0–95 (R128). -/
abbrev SeatNo := Fin 96

/-- The whole of a 16-bit quantity as a word. -/
abbrev word (n : Nat) : Word := BitVec.ofNat 16 n

/-- `f` at every place of a fixed-length table. -/
def vmap {α β : Type} {n : Nat} (f : α → β) (v : Vector α n) : Vector β n :=
  ⟨⟨v.toArray.toList.map f⟩, by simp⟩

/-- `f` at every place of a fixed-length table, told the place's index. -/
def vmapIdx {α β : Type} {n : Nat} (f : Fin n → α → β) (v : Vector α n) : Vector β n :=
  ⟨⟨(List.finRange n).map fun i => f i v[i]⟩, by simp⟩

/-- A table of a fixed length given by a function of the index. -/
def vtab {β : Type} {n : Nat} (f : Fin n → β) : Vector β n :=
  ⟨⟨(List.finRange n).map f⟩, by simp⟩

/-- `f` at one place of a fixed-length table. -/
def vmod {α : Type} {n : Nat} (v : Vector α n) (i : Fin n) (f : α → α) : Vector α n :=
  v.set i (f v[i])

end Sys2Proof
end

