-- ==== Sys2Proof/Syntax.lean ====
section
/-!
DEFINITION. The commands of the DK-612: one constructor for each row of spec/opcode_table.json, with its operands.
-/
namespace Sys2Proof

/-- The three control ports, each named by its master (00_scope.md, Terms). -/
inductive Port where
  | route
  | crew
  | fare
deriving DecidableEq, Repr

/-- The opening of a transaction: the port whose CS# falls and the address byte that follows, `none` where CS# rises
part-way through it (R182). -/
structure Opening where
  port : Port
  address : Option Byte
deriving DecidableEq, Repr

/-- The commands. A request command names no arguments: the owning block takes the copy of the argument words that the
port's request engine made at GO (R184); the port interface takes its own two requests at GO itself (R187). Where only
one port has the right to a request (R187), the command names none. -/
inductive Instr where
  /-- Power-on or RESET# falling (R198). -/
  | deviceReset
  /-- The release of RESET# (R198). -/
  | resetRelease
  /-- A rising edge on ODO (R3). -/
  | odometerPulse
  /-- The route counter takes the ROUTE port's FIX (R9). -/
  | fix
  /-- The fix timer expires (R15). -/
  | fixTimerExpiry
  /-- A 1 s speed window ends (R7). -/
  | speedWindowEnd
  /-- The script unit takes CLAIM_SHADOW from port `p` (R22). -/
  | claimShadow (p : Port)
  /-- The script unit takes RELEASE_SHADOW from port `p` (R23). -/
  | releaseShadow (p : Port)
  /-- The script unit takes SWITCH from port `p` (R25). -/
  | switch (p : Port)
  /-- The script unit takes CANCEL_SWITCH from port `p` (R30). -/
  | cancelSwitch (p : Port)
  /-- The store is free and the store reader starts a pending request (R59). -/
  | readStart
  /-- The header read completes with these 64 bytes (R45). -/
  | headerReadComplete (bytes : Vector Byte 64)
  /-- A directory fetch completes with these 64 bytes (R63). -/
  | directoryFetchComplete (bytes : Vector Byte 64)
  /-- An audio read completes with these 512 bytes (R62). -/
  | audioReadComplete (bytes : Vector Byte 512)
  /-- A block boundary of the audio frame clock (R70). -/
  | blockBoundary
  /-- The queue takes ANNOUNCE from port `p` (R106). -/
  | announce (p : Port)
  /-- The queue takes the CREW port's CANCEL (R112). -/
  | cancel
  /-- The queue takes the CREW port's LIVE_ON (R114). -/
  | liveOn
  /-- The queue takes the CREW port's LIVE_OFF (R116). -/
  | liveOff
  /-- The expiry timer of the CREW entry `id` expires (R111). -/
  | entryExpiryTimer (id : Nat)
  /-- The live timer expires (R117). -/
  | liveTimerExpiry
  /-- The light controller takes the CREW port's SCENE (R170). -/
  | scene
  /-- The channel engine takes the CREW port's DECK (R94). -/
  | deck
  /-- The roster takes the CREW port's CHANNEL_ENABLE (R160). -/
  | channelEnable
  /-- The roster takes the FARE port's ASSIGN (R151). -/
  | assign
  /-- The roster takes the FARE port's RELEASE (R152). -/
  | release
  /-- The roster takes the FARE port's RELEASE_ALL (R152). -/
  | releaseAll
  /-- The port interface takes CLEAR_COUNTERS at port `p`'s GO (R187, R200). -/
  | clearCounters (p : Port)
  /-- The queue takes CLEAR_CAPTURE from port `p` (R124). -/
  | clearCapture (p : Port)
  /-- The port interface takes PORT_RESET at port `p`'s GO (R187, R196). -/
  | portReset (p : Port)
  /-- PRST# of port `p` falls (R197). -/
  | prstAssert (p : Port)
  /-- PRST# of port `p` is released (R197). -/
  | prstRelease (p : Port)
  /-- CS# falls and the address byte follows, or is cut short (R182). -/
  | transactionStart (o : Opening)
  /-- CS# of port `p` rises (R182). -/
  | transactionEnd (p : Port)
  /-- The silence timer of port `p` expires (R194). -/
  | silenceTimerExpiry (p : Port)
  /-- A word written to register `reg`, which has no row of its own (R183). -/
  | registerWrite (p : Port) (reg : BitVec 6) (w : Word)
  /-- A word written to NOTICES (R192). -/
  | noticesWrite (p : Port) (w : Word)
  /-- A word written to NOTICE_MASK (R193). -/
  | noticeMaskWrite (p : Port) (w : Word)
  /-- A word written to PORT_STATUS (R183). -/
  | portStatusWrite (p : Port) (w : Word)
  /-- A word written to TBL_SELECT (R188). -/
  | tblSelectWrite (p : Port) (w : Word)
  /-- A word read from TBL_DATA (R189); `completed` says whether its sixteenth bit was shifted out (R182, R188). -/
  | tblDataRead (p : Port) (completed : Bool)
  /-- A word written to TBL_DATA (R189). -/
  | tblDataWrite (p : Port) (w : Word)
  /-- The first word of a read transaction that starts at POSITION (R17). -/
  | positionRead (p : Port)
  /-- Segment `g` begins a poll cycle (R131). -/
  | cycleStart (g : SegmentNo)
  /-- Segment `g` builds and sends a POLL (R132). -/
  | poll (g : SegmentNo)
  /-- The fourth byte of a reply is received on segment `g` within the window (R133). -/
  | reply (g : SegmentNo) (bytes : Vector Byte 4)
  /-- The reply window of segment `g` closes with `received` bytes, fewer than four, received (R133). -/
  | replyWindowExpiry (g : SegmentNo) (received : Nat)
  /-- The lock-indicator timer of a seat expires (R154). -/
  | lockIndicatorExpiry (seat : SeatNo)
  /-- A 4 ms PWM period starts (R166). -/
  | pwmPeriodStart
  /-- A 20 ms fade step (R171). -/
  | fadeStep
  /-- An ambient conversion starts (R172). -/
  | conversionStart
  /-- An ambient conversion completes with this sample (R172). -/
  | conversionComplete (sample : BitVec 10)
  /-- The flash half-period timer expires (R176). -/
  | flashHalfPeriodExpiry
  /-- The light controller takes the queue's next change, a FLASH change (R176). -/
  | flashChange
  /-- The light controller takes the queue's next change, a SAFETY change (R178). -/
  | safetyChange
deriving DecidableEq, Repr

end Sys2Proof
end

