-- ==== Sys2Proof/Decode.lean ====
section
/-!
DEFINITION. The command a word spells. spec/opcode_table.json gives no row any bits (its commands are pin events,
timer expiries, completions and register words, not encodings), so no word spells a command.
-/
namespace Sys2Proof

/-- The command that the word `w` of `nbits` bits spells by the table's bits: none, since no row has bits. -/
def decodeTableWord (_nbits _w : Nat) : Option Instr := none

end Sys2Proof
end

