-- ==== Sys2Proof/Config.lean ====
section
/-!
DEFINITION. What the manual leaves open and no rule fixes: the free values.
-/
namespace Sys2Proof

/-- FREE VALUE (log entry 5, DESIGN CHOICE). The word a table read returns for a field to which the manual gives no
value in the state it is read in: a playhead part that the playhead's content does not have (R96), and the launch-trip
and expiry words of a queue block whose presence bits are clear (R127). The argument is `State.freeReads`, which every
table read moves on. -/
opaque Config.unstatedWord : Nat → Word

/-- FREE VALUE (log entry 8, DESIGN CHOICE). Whether the count of groups walked that a cut saves takes in the group of
the playhead itself. R87 saves the groups walked before that group; R53 and the worked sequence of
04_language_channels.md save the count of the group playing. No rule decides between the two. -/
opaque Config.savedCountTakesInTheGroup : Bool

end Sys2Proof
end

