-- ==== Sys2Proof/Machine/Timing.lean ====
section
/-!
DEFINITION. The durations the manual states, in microseconds.
-/
namespace Sys2Proof.Machine

/-- One second. -/
def second : Nat := 1000000

/-- One millisecond. -/
def millisecond : Nat := 1000

/-- A speed window lasts 1 s (R7). -/
def speedWindow : Nat := second

/-- The audio frame clock's block period: 512 samples at 16,000 samples per second, 32 ms (R50, R70). -/
def blockPeriod : Nat := 32 * millisecond

/-- A PWM period lasts 4 ms (R166). -/
def pwmPeriod : Nat := 4 * millisecond

/-- Fade steps come every 20 ms (R171). -/
def fadePeriod : Nat := 20 * millisecond

/-- A conversion starts every 500 ms (R172). -/
def conversionPeriod : Nat := 500 * millisecond

/-- A conversion lasts 50 µs (R172). -/
def conversionTime : Nat := 50

/-- A header read or directory fetch lasts 0.25 ms at divider 1 (R55). -/
def directoryReadTime : Nat := 250

/-- An audio read lasts 1.25 ms at divider 1 (R55). -/
def audioReadTime : Nat := 1250

/-- A seven-byte POLL lasts 70 µs (R129). -/
def pollTime : Nat := 70

/-- A four-byte REPLY lasts 40 µs (R129). -/
def replyTime : Nat := 40

/-- The reply window stays open for 300 µs (R132). -/
def replyWindow : Nat := 300

/-- The gap between the end of a poll and the next address is 10 µs (R132). -/
def pollGap : Nat := 10

/-- A poll cycle begins no sooner than 2.0 ms after the one before it began (R131). -/
def cyclePeriod : Nat := 2 * millisecond

/-- The lock-indicator timer runs for 2 s (R154). -/
def lockIndicatorTime : Nat := 2 * second

end Sys2Proof.Machine
end

