-- ==== Sys2Proof/Machine/State.lean ====
section
/-!
DEFINITION. The state of the DK-612, one record for each of the blocks of 00_scope.md, and its values after a device
reset. A timer is `none` while stopped and otherwise holds the moment at which it expires (log entry 2).
-/
namespace Sys2Proof.Machine

/-! ## Reasons to stop -/

/-- The part has no trap: no command ends in a fault. (Safe: there is nothing to raise it.) -/
inductive Fault : Type
deriving DecidableEq, Repr

/-- Why a command may have no meaning. -/
inductive Refusal where
  /-- Raised only by an arm of `exec` for a command without a meaning; no arm does. (Safe: the model stops.) -/
  | notModelled (mnemonic : String)
deriving DecidableEq, Repr

/-! ## Route counter (01_route_position.md) -/

/-- The route counter's state and settings (tables at the head of 01_route_position.md). -/
structure RouteCounter where
  distance : Nat
  prescaler : Nat
  lap : Nat
  /-- The loop length in force (R1). -/
  loopLength : Nat
  trip : Nat
  speed : Nat
  band : Fin 4
  /-- Metres counted in the open speed window (R7). -/
  windowCount : Nat
  windowEnd : Nat
  fixTimer : Option Nat
  stale : Bool
  ratio : Nat
  jumpWindow : Nat
  fixTimeout : Nat
deriving DecidableEq, Repr

/-! ## Script unit (02_cue_scripts_and_bank_switching.md) -/

/-- The four words of a cue slot as they were written (R19, R20, R202). -/
structure CueSlot where
  w0 : Word
  w1 : Word
  w2 : Word
  w3 : Word
deriving DecidableEq, Repr

/-- A cue bank: its header and 256 slots (R18). -/
structure Bank where
  loopLength : Nat
  cueCount : Nat
  tag : Word
  slots : Vector CueSlot 256
deriving DecidableEq, Repr

/-- Which of the two banks. -/
inductive BankId where
  | bank0
  | bank1
deriving DecidableEq, Repr

/-- The pending switch record (R28). -/
structure PendingSwitch where
  lap : Nat
  position : Nat
  lateLaps : Nat
deriving DecidableEq, Repr

structure ScriptUnit where
  bank0 : Bank
  bank1 : Bank
  /-- The ACTIVE bank; the other is SHADOW (R18). -/
  active : BankId
  claimant : Option Port
  pendingSwitch : Option PendingSwitch
  pointer : Nat
  markNumber : Nat
  markCount : Nat
deriving DecidableEq, Repr

/-! ## Store reader (03_clip_store_and_store_reader.md) -/

/-- The catalogue state (R46). -/
inductive Catalogue where
  | loading
  | ready
  | bad
deriving DecidableEq, Repr

/-- Why the catalogue is BAD (R45). -/
inductive BadReason where
  | none
  | signature
  | version
  | size
  | groups
deriving DecidableEq, Repr

/-- One buffer of a stream pair (R71). -/
inductive BufName where
  | x
  | y
deriving DecidableEq, Repr

/-- The group and block offset a buffer is read for (R58). -/
structure Tag where
  group : Nat
  offset : Nat
deriving DecidableEq, Repr

/-- What a read is for (R55). -/
inductive ReadKind where
  | header
  | directory (c : ChannelNo)
  | audio (c : ChannelNo) (buf : BufName) (tag : Tag)
deriving DecidableEq, Repr

/-- The read in flight on the clip store: its byte address and byte count on the store pins (R44) and the moment it
completes (R55). -/
structure Read where
  kind : ReadKind
  address : Nat
  count : Nat
  ends : Nat
deriving DecidableEq, Repr

structure StoreReader where
  catalogue : Catalogue
  badReason : BadReason
  storeSize : Nat
  groupCount : Nat
  divider : Nat
  lastServed : ChannelNo
  inFlight : Option Read
deriving DecidableEq, Repr

/-! ## Channel engine (04_language_channels.md) -/

/-- A channel's play state (R69). -/
inductive PlayState where
  | quiet
  | commentary
  | hold
  | announce
  | live
deriving DecidableEq, Repr

/-- The class of an announcement entry (R97). -/
inductive AnnClass where
  | standard
  | express
  | live
deriving DecidableEq, Repr

/-- The class of a channel's item (R69). -/
inductive ItemClass where
  | none
  | commentary
  | standard
  | express
  | live
deriving DecidableEq, Repr

/-- A playable language entry (R49). -/
structure LangEntry where
  start : Nat
  length : Nat
deriving DecidableEq, Repr

/-- The next step of a chain, as the look-ahead of R53 has found it. A count is the tentative count of groups walked
with that step in it. -/
inductive Ahead where
  /-- The record of `group` is awaited. -/
  | walking (group count : Nat)
  /-- A playable group has been found; `next` is its own next-group field. -/
  | found (group : Nat) (entry : LangEntry) (unbroken : Bool) (next : Word) (count : Nat)
  /-- The walk ahead has ended the chain. -/
  | ended
deriving DecidableEq, Repr

/-- How far a chain is with the group its playhead names. -/
inductive ChainPhase where
  /-- The record of the group is awaited, its chain step counted (R51). -/
  | awaiting
  /-- The playhead has left a group and keeps time; the record of the named group is awaited with a tentative count
  (R53). -/
  | between (count : Nat)
  /-- The group plays. -/
  | playing (entry : LangEntry) (unbroken : Bool) (ahead : Ahead)
  /-- The chain has ended and no block of it is due (R75). -/
  | ended
deriving DecidableEq, Repr

/-- A CHAIN playhead (R75). -/
structure Chain where
  group : Nat
  offset : Nat
  walked : Nat
  start : Nat
  phase : ChainPhase
  /-- The next boundary is the end boundary of the group the playhead has just left (R75). -/
  atEnd : Bool
deriving DecidableEq, Repr

/-- A CLIP playhead (R75). -/
structure Clip where
  id : Nat
  group : Nat
  offset : Nat
  entry : Option LangEntry
  /-- No further block of it is taken: the clip is finished, R54 ended it or the queue stopped it. -/
  finished : Bool
  /-- No END report is owed: it has been made, or the queue stopped the item (R79). -/
  reported : Bool
deriving DecidableEq, Repr

/-- A channel's playhead (R75); the constructor is its content. -/
inductive Playhead where
  | none
  | chain (ch : Chain)
  | clip (cl : Clip)
  | mic (id : Nat) (stopped : Bool)
deriving DecidableEq, Repr

/-- A commentary context (R82, R87); `walked` counts the groups walked before its group. -/
structure CommentaryContext where
  group : Nat
  offset : Nat
  walked : Nat
  start : Nat
  cutTime : Nat
deriving DecidableEq, Repr

/-- A context saved on a resume stack (R87). -/
inductive Context where
  | commentary (c : CommentaryContext)
  | announcement (id : Nat) (cls : AnnClass)
deriving DecidableEq, Repr

/-- The pending commentary action (R80, R81). -/
inductive Action where
  | none
  | start (group time : Nat)
  | stop
deriving DecidableEq, Repr

/-- The entry the queue names for a channel (R78). -/
structure Offer where
  id : Nat
  cls : AnnClass
deriving DecidableEq, Repr

/-- Who owns a stream buffer (R61). -/
inductive Owner where
  | reader
  | player
deriving DecidableEq, Repr

structure Buffer where
  owner : Owner
  tag : Option Tag
  data : List Byte
deriving DecidableEq, Repr

/-- A channel's directory request (R57): `inFlight` while the read in flight is its own and has not been abandoned. -/
inductive Fetch where
  | none
  | pending (group : Nat)
  | inFlight (group : Nat)
deriving DecidableEq, Repr

/-- What a channel's slot carries in the present period (R74). -/
inductive Output where
  | silence
  | samples (xs : List Int)
  | microphone
deriving DecidableEq, Repr

/-- A channel record (table at the head of 04_language_channels.md), with its directory request and output. -/
structure ChannelRec where
  enabled : Bool
  label0 : Byte
  label1 : Byte
  playState : PlayState
  itemClass : ItemClass
  playhead : Playhead
  action : Action
  offer : Option Offer
  bufX : Buffer
  bufY : Buffer
  toggle : BufName
  /-- The resume stack, top first. -/
  stack : List Context
  hold : Nat
  listened : Bool
  fullPeriod : Bool
  fetch : Fetch
  output : Output
deriving DecidableEq, Repr

structure ChannelEngine where
  channels : Vector ChannelRec 12
  holdAdvance : Nat
  resumeWindow : Nat
  chainLimit : Nat
  deckChannel : Option ChannelNo
  deckVolume : Nat
  /-- The deck channel and volume the deck output took at the last block boundary (R95). -/
  deckOutChannel : Option ChannelNo
  deckOutVolume : Nat
  nextBoundary : Nat
deriving DecidableEq, Repr

/-! ## Announcement queue (05_announcements_and_live_microphone.md) -/

/-- Who made an entry (R97). -/
inductive Source where
  | cue
  | crew
  | route
deriving DecidableEq, Repr

/-- What an entry plays (R97). -/
inductive EntryContent where
  | clip (group : Nat)
  | mic
deriving DecidableEq, Repr

/-- An entry's expiry (R97): a trip distance, or seconds after launch. -/
inductive Expiry where
  | none
  | trip (metres : Nat)
  | seconds (n : Nat)
deriving DecidableEq, Repr

/-- An obligation's state (R100). -/
inductive ObState where
  | opened
  | playing
  | cut
  | heard
  | unheard
  | dropped
deriving DecidableEq, Repr

/-- Why an obligation was dropped (R100). -/
inductive DropCause where
  | expiry
  | loss
deriving DecidableEq, Repr

/-- An entry's obligation towards one channel (R100). -/
structure Obligation where
  channel : ChannelNo
  state : ObState
  /-- Recorded at the START report. -/
  listenedAtStart : Option Bool
  cause : Option DropCause
deriving DecidableEq, Repr

/-- A queue entry (R97). -/
structure Entry where
  id : Nat
  cls : AnnClass
  source : Source
  content : EntryContent
  flash : Bool
  safety : Bool
  launchTrip : Option Nat
  expiry : Expiry
  /-- LAUNCHED, as against WAITING. -/
  launched : Bool
  /-- Set when the expiry is taken, with the lap and distance recorded then (R110). -/
  expiryTaken : Option (Nat × Nat)
  /-- The expiry timer of a launched CREW entry (R111). -/
  timer : Option Nat
  obligations : List Obligation
deriving DecidableEq, Repr

/-- An ended entry's outcome (R121). -/
inductive EndOutcome where
  | none
  | played
  | expired
  | unheard
  | cancelled
deriving DecidableEq, Repr

/-- The expiry capture record (R123). -/
structure Capture where
  id : Nat
  group : Nat
  source : Source
  lap : Nat
  distance : Nat
deriving DecidableEq, Repr

/-- A change of a signal that the queue hands the light controller (R125, R126). -/
inductive LightChange where
  | flash (active : Bool)
  | safety (active : Bool)
deriving DecidableEq, Repr

structure AnnouncementQueue where
  /-- The entries in queue order (R99). -/
  entries : List Entry
  lastId : Nat
  liveTimer : Option Nat
  liveLimit : Nat
  capture : Option Capture
  lastEndedId : Nat
  lastOutcome : EndOutcome
  endCount : Nat
  flash : Bool
  safety : Bool
  /-- Changes handed on and not yet taken by the light controller, in the order they were handed (R178). -/
  handed : List LightChange
deriving DecidableEq, Repr

/-! ## Seat bus controller (06_seat_bus_and_seat_stations.md) -/

/-- A station's state (R135). -/
inductive StationState where
  | absent
  | joining
  | present
  | lost
deriving DecidableEq, Repr

/-- A station record (06, Station states) with the seat's FAULT flag (R142). -/
structure Station where
  state : StationState
  misses : Nat
  baseline : Bool
  fault : Bool
deriving DecidableEq, Repr

/-- The poll in flight on a segment: the POLL's bytes and the reply window (R132). -/
structure PollInFlight where
  frame : Vector Byte 7
  opens : Nat
  closes : Nat
deriving DecidableEq, Repr

/-- A segment controller (R131, R132). -/
structure Segment where
  cursor : Nat
  cycleCount : Nat
  inCycle : Bool
  cycleBegan : Nat
  poll : Option PollInFlight
  /-- When the gap after the last poll ends. -/
  readyAt : Nat
deriving DecidableEq, Repr

structure SeatBus where
  segments : Vector Segment 6
  stations : Vector Station 96
deriving DecidableEq, Repr

/-! ## Seat roster (07_seat_roster_and_assignments.md) -/

/-- Who chose a seat's language (07, The seat record). -/
inductive AssignedBy where
  | none
  | fare
  | seat
deriving DecidableEq, Repr

/-- A seat record; its number and deck are fixed by its index (R149). -/
structure Seat where
  station : StationState
  plugged : Bool
  fault : Bool
  language : Option ChannelNo
  assignedBy : AssignedBy
  lock : Bool
  tag : Option (BitVec 32)
  volume : Nat
  effective : Nat
  lockTimer : Option Nat
deriving DecidableEq, Repr

structure Roster where
  seats : Vector Seat 96
  enabled : ChannelSet
  census : Vector Nat 12
  /-- Each channel's LISTENED state as last handed to the channel engine (R158). -/
  listened : Vector Bool 12
  deck : Option ChannelNo
  band : Fin 4
  changeCount : Nat
  trims : Vector Nat 4
deriving DecidableEq, Repr

/-! ## Light controller (08_upper_deck_lighting.md) -/

/-- A zone's mode: the case of R167 that gave its pending level. -/
inductive ZoneMode where
  | scaled
  | exempt
  | flash
  | safety
deriving DecidableEq, Repr

structure Zone where
  current : Nat
  target : Nat
  pending : Nat
  applied : Nat
  mode : ZoneMode
deriving DecidableEq, Repr

/-- A scene record (R168). -/
structure SceneRec where
  levels : Vector Nat 8
  rate : Nat
  exempt : ZoneSet
deriving DecidableEq, Repr

/-- The ambient class (R173). -/
inductive Ambient where
  | day
  | dusk
  | night
deriving DecidableEq, Repr

structure Lights where
  zones : Vector Zone 8
  scenes : Vector SceneRec 16
  sceneInForce : Option (Fin 16)
  rate : Nat
  exempt : ZoneSet
  run : Bool
  sample : Nat
  ambient : Ambient
  candidate : Option Ambient
  candidateCount : Nat
  flashActive : Bool
  phaseOn : Bool
  flashTimer : Option Nat
  safetyActive : Bool
  dayThreshold : Nat
  nightThreshold : Nat
  dayScale : Nat
  duskScale : Nat
  nightScale : Nat
  halfPeriod : Nat
  flashMask : ZoneSet
  nextPwm : Nat
  nextFade : Nat
  nextConversion : Nat
  conversionEnd : Nat
deriving DecidableEq, Repr

/-! ## Port interface (09_master_ports.md) -/

/-- The requests, in the order of their codes 1 to 18 (10_record_and_register_layouts.md). -/
inductive RequestKind where
  | fix
  | announce
  | cancel
  | liveOn
  | liveOff
  | scene
  | deck
  | channelEnable
  | assign
  | release
  | releaseAll
  | claimShadow
  | releaseShadow
  | switch
  | cancelSwitch
  | clearCounters
  | clearCapture
  | portReset
deriving DecidableEq, Repr

/-- The argument words REQ_ARG0 to REQ_ARG3. -/
structure Args where
  a0 : Word
  a1 : Word
  a2 : Word
  a3 : Word
deriving DecidableEq, Repr

/-- A request handed to its owning block and not yet taken: its kind and the argument words copied at GO (R184). -/
structure Request where
  kind : RequestKind
  args : Args
deriving DecidableEq, Repr

/-- The result codes, in the order of their values 0 to 12 (R186). -/
inductive ResultCode where
  | ok
  | badCode
  | noRight
  | badArgument
  | queueFull
  | held
  | notHolder
  | locked
  | scriptInvalid
  | liveActive
  | noLive
  | noSuchEntry
  | notReady
deriving DecidableEq, Repr

/-- The last table access result (R189). -/
inductive Access where
  | ok
  | noRight
  | range
  | value
  | locked
deriving DecidableEq, Repr

/-- The nine tables, in the order of their numbers (R190). -/
inductive Table where
  | settings
  | shadow
  | active
  | seats
  | channels
  | queue
  | scenes
  | counters
  | capture
deriving DecidableEq, Repr

/-- A port's transaction (R182, R183). -/
inductive Transaction where
  /-- CS# is high, or the port does not take its transactions. -/
  | idle
  /-- CS# rises before the address byte is complete: the transaction reaches no register. -/
  | unaddressed
  /-- A write transaction; the next word goes to register `n`. -/
  | writing (n : BitVec 6)
  /-- A read transaction that started at register `n`, or, once it has read TBL_DATA, stays there (R183). -/
  | reading (n : BitVec 6)
deriving DecidableEq, Repr

/-- The snapshot of POSITION, ROUTE_STATUS, TRIP_HIGH and TRIP_LOW (R17). -/
structure Snapshot where
  position : Word
  status : Word
  tripHigh : Word
  tripLow : Word
deriving DecidableEq, Repr

/-- One port's state (table at the head of 09_master_ports.md). -/
structure PortState where
  /-- The request in progress while the engine is BUSY; `none` while it is IDLE (R184). -/
  busy : Option Request
  reqCode : BitVec 6
  args : Args
  result : ResultCode
  detail : Word
  table : Table
  pointer : Nat
  access : Access
  notices : Word
  mask : Word
  silent : Bool
  silenceTimer : Option Nat
  timeout : Nat
  portRestarted : Bool
  deviceRestarted : Bool
  /-- PRST# is held low (R197). -/
  prstHeld : Bool
  transaction : Transaction
  snapshot : Option Snapshot
deriving DecidableEq, Repr

/-- One value for each port. -/
structure PerPort (α : Type) where
  route : α
  crew : α
  fare : α
deriving DecidableEq, Repr

/-- The 24 shared counters (R200). -/
structure Counters where
  underruns : Vector Nat 12
  framing : Vector Nat 6
  chainErrors : Nat
  cueDrops : Nat
  contextLosses : Nat
  expired : Nat
  unheard : Nat
  cancelled : Nat
deriving DecidableEq, Repr

structure PortInterface where
  windows : PerPort PortState
  counters : Counters
deriving DecidableEq, Repr

/-! ## The whole machine -/

/-- The state of the part, the commands that wait for it (first in, first out), its clock in microseconds since the
release of RESET# (log entry 2) and the count that feeds the free table words (log entry 5). -/
structure State where
  pending : List Instr
  resetHeld : Bool
  now : Nat
  freeReads : Nat
  route : RouteCounter
  script : ScriptUnit
  reader : StoreReader
  engine : ChannelEngine
  queue : AnnouncementQueue
  bus : SeatBus
  roster : Roster
  lights : Lights
  ports : PortInterface
deriving DecidableEq, Repr

/-! ## Reset values -/

def RouteCounter.reset : RouteCounter where
  distance := 0
  prescaler := 0
  lap := 0
  loopLength := 65535
  trip := 0
  speed := 0
  band := 0
  windowCount := 0
  windowEnd := speedWindow
  fixTimer := none
  stale := true
  ratio := 8
  jumpWindow := 200
  fixTimeout := 30

def Bank.reset : Bank where
  loopLength := 0
  cueCount := 0
  tag := 0
  slots := Vector.replicate 256 ⟨0, 0, 0, 0⟩

def ScriptUnit.reset : ScriptUnit where
  bank0 := Bank.reset
  bank1 := Bank.reset
  active := .bank0
  claimant := none
  pendingSwitch := none
  pointer := 0
  markNumber := 0
  markCount := 0

/-- The store reader while RESET# is held (R64). -/
def StoreReader.reset : StoreReader where
  catalogue := .loading
  badReason := .none
  storeSize := 0
  groupCount := 0
  divider := 1
  lastServed := 11
  inFlight := none

/-- A reader-owned buffer with no tag and no contents (R71). -/
def Buffer.empty : Buffer where
  owner := .reader
  tag := none
  data := []

def ChannelRec.reset : ChannelRec where
  enabled := false
  label0 := 0x20#8
  label1 := 0x20#8
  playState := .quiet
  itemClass := .none
  playhead := .none
  action := .none
  offer := none
  bufX := Buffer.empty
  bufY := Buffer.empty
  toggle := .x
  stack := []
  hold := 0
  listened := false
  fullPeriod := false
  fetch := .none
  output := .silence

def ChannelEngine.reset : ChannelEngine where
  channels := Vector.replicate 12 ChannelRec.reset
  holdAdvance := 94
  resumeWindow := 20
  chainLimit := 16
  deckChannel := none
  deckVolume := 8
  deckOutChannel := none
  deckOutVolume := 8
  nextBoundary := blockPeriod

def AnnouncementQueue.reset : AnnouncementQueue where
  entries := []
  lastId := 0
  liveTimer := none
  liveLimit := 120
  capture := none
  lastEndedId := 0
  lastOutcome := .none
  endCount := 0
  flash := false
  safety := false
  handed := []

def Station.reset : Station where
  state := .absent
  misses := 0
  baseline := false
  fault := false

/-- A segment controller while RESET# is held (R147). -/
def Segment.reset : Segment where
  cursor := 0
  cycleCount := 0
  inCycle := false
  cycleBegan := 0
  poll := none
  readyAt := 0

def SeatBus.reset : SeatBus where
  segments := Vector.replicate 6 Segment.reset
  stations := Vector.replicate 96 Station.reset

def Seat.reset : Seat where
  station := .absent
  plugged := false
  fault := false
  language := none
  assignedBy := .none
  lock := false
  tag := none
  volume := 8
  effective := 8
  lockTimer := none

def Roster.reset : Roster where
  seats := Vector.replicate 96 Seat.reset
  enabled := 0
  census := Vector.replicate 12 0
  listened := Vector.replicate 12 false
  deck := none
  band := 0
  changeCount := 0
  trims := #v[0, 1, 2, 3]

def Zone.reset : Zone where
  current := 0
  target := 0
  pending := 0
  applied := 0
  mode := .scaled

def SceneRec.reset : SceneRec where
  levels := Vector.replicate 8 0
  rate := 0
  exempt := 0

/-- The light controller while RESET# is held (R179). -/
def Lights.reset : Lights where
  zones := Vector.replicate 8 Zone.reset
  scenes := Vector.replicate 16 SceneRec.reset
  sceneInForce := none
  rate := 0
  exempt := 0
  run := false
  sample := 0
  ambient := .dusk
  candidate := none
  candidateCount := 0
  flashActive := false
  phaseOn := true
  flashTimer := none
  safetyActive := false
  dayThreshold := 600
  nightThreshold := 120
  dayScale := 0
  duskScale := 128
  nightScale := 256
  halfPeriod := 250
  flashMask := 0xC0#8
  nextPwm := pwmPeriod
  nextFade := fadePeriod
  nextConversion := conversionPeriod
  conversionEnd := conversionTime

def PortState.reset : PortState where
  busy := none
  reqCode := 0
  args := ⟨0, 0, 0, 0⟩
  result := .ok
  detail := 0
  table := .settings
  pointer := 0
  access := .ok
  notices := 0
  mask := 0xFFFF#16
  silent := false
  silenceTimer := none
  timeout := 0
  portRestarted := false
  deviceRestarted := true
  prstHeld := false
  transaction := .idle
  snapshot := none

def Counters.reset : Counters where
  underruns := Vector.replicate 12 0
  framing := Vector.replicate 6 0
  chainErrors := 0
  cueDrops := 0
  contextLosses := 0
  expired := 0
  unheard := 0
  cancelled := 0

def PortInterface.reset : PortInterface where
  windows := ⟨PortState.reset, PortState.reset, PortState.reset⟩
  counters := Counters.reset

/-- The part while RESET# is held: every block at its reset values, nothing in progress (R198, R64, R147, R179). -/
def State.held : State where
  pending := []
  resetHeld := true
  now := 0
  freeReads := 0
  route := RouteCounter.reset
  script := ScriptUnit.reset
  reader := StoreReader.reset
  engine := ChannelEngine.reset
  queue := AnnouncementQueue.reset
  bus := SeatBus.reset
  roster := Roster.reset
  lights := Lights.reset
  ports := PortInterface.reset

/-- The header read that starts when RESET# is released: 64 bytes at block 0, at divider 1 (R45, R55, R56). -/
def Read.header : Read where
  kind := .header
  address := 0
  count := 64
  ends := directoryReadTime

/-- The machine right after reset: RESET# has just been released (R198), so the header read is in flight (R45), the
first poll cycle has begun on every segment (R147) and the first ambient conversion has started (R172); everything else
stands at its reset value (log entry 1). -/
def State.reset : State :=
  { State.held with
    resetHeld := false
    reader := { StoreReader.reset with inFlight := some Read.header }
    bus := { SeatBus.reset with
      segments := Vector.replicate 6 { Segment.reset with inCycle := true } }
    lights := { Lights.reset with run := true } }

end Sys2Proof.Machine
end

