-- ==== Sys2Proof/Machine/Ops.lean ====
section
/-!
DEFINITION. The operations shared by the blocks: the clock, the ports' windows, notices, shared counters, and the
answer to a request.
-/
namespace Sys2Proof.Machine

/-! ## Clock (log entry 2) -/

/-- The event that was due at time `t` is taken: the clock stands at `t` at least. -/
def State.reach (s : State) (t : Nat) : State := { s with now := max s.now t }

/-- What an idle step does: one microsecond passes, unless RESET# is held. -/
def State.tick (s : State) : State := { s with now := if s.resetHeld then s.now else s.now + 1 }

/-! ## Ports -/

def PerPort.get {α : Type} (v : PerPort α) : Port → α
  | .route => v.route
  | .crew => v.crew
  | .fare => v.fare

def PerPort.modify {α : Type} (v : PerPort α) (p : Port) (f : α → α) : PerPort α :=
  match p with
  | .route => { v with route := f v.route }
  | .crew => { v with crew := f v.crew }
  | .fare => { v with fare := f v.fare }

/-- The window of port `p`. -/
def State.port (s : State) (p : Port) : PortState := s.ports.windows.get p

def State.modPort (s : State) (p : Port) (f : PortState → PortState) : State :=
  { s with ports := { s.ports with windows := s.ports.windows.modify p f } }

/-! ## Notices (R192) -/

/-- The sixteen notices, in the order of their bits 0 to 15 (10_record_and_register_layouts.md). -/
inductive Notice where
  | reqDone
  | reqOverrun
  | mark
  | switchDone
  | switchLate
  | routeStale
  | annStart
  | annEnd
  | cueDropped
  | contextLost
  | underrun
  | chainError
  | seatEvent
  | stationFault
  | portSilent
  | catalogue
deriving DecidableEq, Repr

/-- The notice's bit in NOTICES and NOTICE_MASK. -/
def Notice.bit : Notice → Word
  | .reqDone => 0x0001#16
  | .reqOverrun => 0x0002#16
  | .mark => 0x0004#16
  | .switchDone => 0x0008#16
  | .switchLate => 0x0010#16
  | .routeStale => 0x0020#16
  | .annStart => 0x0040#16
  | .annEnd => 0x0080#16
  | .cueDropped => 0x0100#16
  | .contextLost => 0x0200#16
  | .underrun => 0x0400#16
  | .chainError => 0x0800#16
  | .seatEvent => 0x1000#16
  | .stationFault => 0x2000#16
  | .portSilent => 0x4000#16
  | .catalogue => 0x8000#16

/-- A raised notice is set in a port's set, unless the port's PRST# is held (R192, R197). -/
def PortState.raise (ps : PortState) (n : Notice) : PortState :=
  if ps.prstHeld then ps else { ps with notices := ps.notices ||| n.bit }

/-- A notice set at one port. -/
def State.raiseAt (s : State) (p : Port) (n : Notice) : State := s.modPort p (·.raise n)

/-- A notice set at all three ports. -/
def State.raise (s : State) (n : Notice) : State :=
  ((s.raiseAt .route n).raiseAt .crew n).raiseAt .fare n

/-- A notice set at the two ports other than `p`. -/
def State.raiseOthers (s : State) (p : Port) (n : Notice) : State :=
  match p with
  | .route => (s.raiseAt .crew n).raiseAt .fare n
  | .crew => (s.raiseAt .route n).raiseAt .fare n
  | .fare => (s.raiseAt .route n).raiseAt .crew n

/-! ## Shared counters (R200) -/

/-- A 16-bit counter counts one and stops at its maximum. -/
def saturate (n : Nat) : Nat := min (n + 1) 65535

def State.modCounters (s : State) (f : Counters → Counters) : State :=
  { s with ports := { s.ports with counters := f s.ports.counters } }

/-- A CHAIN_ERROR: the notice at all ports and one more in the chain-error counter (R52). -/
def State.chainError (s : State) : State :=
  (s.raise .chainError).modCounters fun k => { k with chainErrors := saturate k.chainErrors }

/-- A dropped cue: CUE_DROPPED at all ports and one more in the cue-drop counter (R38, R40, R108). -/
def State.cueDropped (s : State) : State :=
  (s.raise .cueDropped).modCounters fun k => { k with cueDrops := saturate k.cueDrops }

/-- A lost context: CONTEXT_LOST at all ports and one more in the context-loss counter (R82, R87). -/
def State.contextLost (s : State) : State :=
  (s.raise .contextLost).modCounters fun k => { k with contextLosses := saturate k.contextLosses }

/-- A counted underrun on channel `c`: UNDERRUN at all ports and one more in the channel's counter (R73). -/
def State.countUnderrun (s : State) (c : ChannelNo) : State :=
  (s.raise .underrun).modCounters fun k => { k with underruns := vmod k.underruns c saturate }

/-- A framing error on segment `g` (R134). -/
def State.countFraming (s : State) (g : SegmentNo) : State :=
  s.modCounters fun k => { k with framing := vmod k.framing g saturate }

/-- One more UNHEARD outcome (R108, R122). -/
def State.countUnheard (s : State) : State :=
  s.modCounters fun k => { k with unheard := saturate k.unheard }

/-- An ended entry adds to the counter of its outcome; PLAYED adds to none (R122). -/
def State.countOutcome (s : State) : EndOutcome → State
  | .expired => s.modCounters fun k => { k with expired := saturate k.expired }
  | .unheard => s.countUnheard
  | .cancelled => s.modCounters fun k => { k with cancelled := saturate k.cancelled }
  | .played => s
  | .none => s

/-! ## Requests (R184) -/

/-- The arguments of the request of kind `k` that port `p` has handed to its owning block and the block has not yet
taken; `none` when the port's engine holds no such request. -/
def State.inHand (s : State) (p : Port) (k : RequestKind) : Option Args :=
  match (s.port p).busy with
  | some r => if r.kind = k then some r.args else none
  | none => none

/-- The owning block's answer: the engine returns to IDLE with the result and detail, and REQ_DONE is set at the issuing
port (R184). -/
def State.answer (s : State) (p : Port) (r : ResultCode) (detail : Word) : State :=
  s.modPort p fun ps => { ps with busy := none, result := r, detail := detail }.raise .reqDone

/-- The owning block takes port `p`'s request of kind `k`, if the port has one in hand, and does `f`, which answers it.
With no such request in hand there is nothing to take (log entry 3). -/
def State.taking (s : State) (p : Port) (k : RequestKind) (f : Args → State) : State :=
  match s.inHand p k with
  | some a => f a
  | none => s

/-! ## Channels -/

def State.channel (s : State) (c : ChannelNo) : ChannelRec := s.engine.channels[c]

def State.modChannel (s : State) (c : ChannelNo) (f : ChannelRec → ChannelRec) : State :=
  { s with engine := { s.engine with channels := vmod s.engine.channels c f } }

/-- `f` taken for channels 0 to 11 in channel number order (log entry 9). -/
def State.forChannels (s : State) (f : State → ChannelNo → State) : State :=
  (List.finRange 12).foldl f s

/-! ## Stations and seats -/

def State.station (s : State) (i : SeatNo) : Station := s.bus.stations[i]

def State.modStation (s : State) (i : SeatNo) (f : Station → Station) : State :=
  { s with bus := { s.bus with stations := vmod s.bus.stations i f } }

def State.segment (s : State) (g : SegmentNo) : Segment := s.bus.segments[g]

def State.modSegment (s : State) (g : SegmentNo) (f : Segment → Segment) : State :=
  { s with bus := { s.bus with segments := vmod s.bus.segments g f } }

def State.seat (s : State) (i : SeatNo) : Seat := s.roster.seats[i]

/-! ## Running and held -/

/-- An event that is not taken while RESET# is held (R3, R147, R172, R198). -/
def State.running (s : State) (f : State → State) : State := if s.resetHeld then s else f s

end Sys2Proof.Machine
end

