-- ==== Sys2Proof/Machine/Operands.lean ====
section
/-!
DEFINITION. The fields of the records and words the part is given: cue slots, clip-store records, audio samples, reply
frames, request arguments (10_record_and_register_layouts.md).
-/
namespace Sys2Proof.Machine

/-! ## Bits and bytes -/

/-- The field of `len` bits whose lowest bit is bit `lo`. -/
def field (w : Word) (lo len : Nat) : Nat := (w.extractLsb' lo len).toNat

/-- A two-byte value, most significant byte first. -/
def be16 (hi lo : Byte) : Word := hi ++ lo

/-- Channel `c` is in the set. -/
def inSet (set : ChannelSet) (c : ChannelNo) : Bool := set.getLsbD c.val

/-- Zone `z` is in the set. -/
def inZones (set : ZoneSet) (z : Fin 8) : Bool := set.getLsbD z.val

/-- The channels of a language set, in channel number order. -/
def channelsOf (set : ChannelSet) : List ChannelNo := (List.finRange 12).filter fun c => inSet set c

/-- A channel named by a number below 12. -/
def channelOf (n : Nat) : Option ChannelNo := if h : n < 12 then some ⟨n, h⟩ else none

/-! ## Cue slots (R19) -/

/-- A cue's kind field (Bank words). -/
inductive CueKind where
  | commentary
  | quiet
  | announce
  | scene
  | mark
  | illegal
deriving DecidableEq, Repr

def CueSlot.position (q : CueSlot) : Nat := q.w0.toNat

def CueSlot.kind (q : CueSlot) : CueKind :=
  match field q.w1 13 3 with
  | 0 => .commentary
  | 1 => .quiet
  | 2 => .announce
  | 3 => .scene
  | 4 => .mark
  | _ => .illegal

def CueSlot.cls (q : CueSlot) : AnnClass := if q.w1.getLsbD 12 then .express else .standard

def CueSlot.languages (q : CueSlot) : ChannelSet := q.w1.extractLsb' 0 12

def CueSlot.flash (q : CueSlot) : Bool := q.w2.getLsbD 15

def CueSlot.safety (q : CueSlot) : Bool := q.w2.getLsbD 14

def CueSlot.needsFix (q : CueSlot) : Bool := q.w2.getLsbD 13

def CueSlot.group (q : CueSlot) : Nat := field q.w2 0 11

def CueSlot.scene (q : CueSlot) : Fin 16 := (q.w2.extractLsb' 0 4).toFin

def CueSlot.mark (q : CueSlot) : Nat := field q.w2 0 8

def CueSlot.expiryDistance (q : CueSlot) : Nat := field q.w3 0 12

/-- Word `i` of a cue slot, 0 to 3. -/
def CueSlot.word (q : CueSlot) (i : Nat) : Word :=
  match i with
  | 0 => q.w0
  | 1 => q.w1
  | 2 => q.w2
  | _ => q.w3

def CueSlot.setWord (q : CueSlot) (i : Nat) (w : Word) : CueSlot :=
  match i with
  | 0 => { q with w0 := w }
  | 1 => { q with w1 := w }
  | 2 => { q with w2 := w }
  | _ => { q with w3 := w }

/-! ## Clip-store records (R44, R45, R48) -/

/-- Why a header read is BAD, judged in the order of R45, or its store size and group count. -/
def judgeHeader (b : Vector Byte 64) : BadReason × Nat × Nat :=
  let size := (be16 b[6] b[7]).toNat
  let groups := (be16 b[8] b[9]).toNat
  if ¬(b[0] = 0x44#8 ∧ b[1] = 0x4B#8 ∧ b[2] = 0x43#8 ∧ b[3] = 0x53#8) then (.signature, 0, 0)
  else if b[4] ≠ 1#8 then (.version, 0, 0)
  else if size < 130 ∨ 32768 < size then (.size, 0, 0)
  else if groups < 1 ∨ 1024 < groups then (.groups, 0, 0)
  else (.none, size, groups)

/-- What channel `c` uses of a group record: its language entry's start block and length, the next-group field and
UNBROKEN (R48). -/
structure GroupRecord where
  start : Nat
  length : Nat
  next : Word
  unbroken : Bool
deriving DecidableEq, Repr

def parseRecord (b : Vector Byte 64) (c : ChannelNo) : GroupRecord where
  start := field (be16 (b[4 * c.val]'(by omega)) (b[4 * c.val + 1]'(by omega))) 0 15
  length := field (be16 (b[4 * c.val + 2]'(by omega)) (b[4 * c.val + 3]'(by omega))) 0 13
  next := be16 b[48] b[49]
  unbroken := b[50].getLsbD 0

/-- The judgement of a language entry (R49). -/
inductive EntryJudged where
  | absent
  | invalid
  | playable (e : LangEntry)
deriving DecidableEq, Repr

/-- R49: length 0 is absent whatever the start block; an entry outside the audio blocks is invalid. -/
def judgeEntry (r : GroupRecord) (storeSize : Nat) : EntryJudged :=
  if r.length = 0 then .absent
  else if r.start < 129 ∨ storeSize < r.start + r.length then .invalid
  else .playable ⟨r.start, r.length⟩

/-- A next-group field (R48, R52). -/
inductive Link where
  | finish
  | invalid
  | group (g : Nat)
deriving DecidableEq, Repr

/-- R52: FFFFh ends the chain; a value of 1024 or more, or not less than the group count in force, is invalid. -/
def judgeLink (next : Word) (groupCount : Nat) : Link :=
  if next = 0xFFFF#16 then .finish
  else if 1024 ≤ next.toNat ∨ groupCount ≤ next.toNat then .invalid
  else .group next.toNat

/-! ## Audio samples -/

/-- R50: the linear value of a companded sample byte. -/
def expand (b : Byte) : Int :=
  let step := (b.extractLsb' 0 4).toNat
  let segment := (b.extractLsb' 4 3).toNat
  let magnitude : Int := (step + 16) * 2 ^ segment - 16
  if b.getLsbD 7 then -magnitude else magnitude

/-- R74: a microphone sample beyond ±3,952 is taken as ±3,952. -/
def micSample (raw : BitVec 16) : Int := max (-3952) (min 3952 raw.toInt)

/-- R95: a deck sample is the channel's sample times the deck volume divided by 15, rounded toward zero. -/
def deckSample (volume : Nat) (x : Int) : Int := (x * volume).tdiv 15

/-! ## Seat-bus frames (R201) -/

/-- One bit of the check register with generator x⁸ + x² + x + 1. -/
def checkShift (r : Byte) : Byte := if r.getLsbD 7 then (r <<< 1) ^^^ 0x07#8 else r <<< 1

/-- The check register after one more byte, most significant bit first. -/
def checkByteStep (r b : Byte) : Byte := (List.range 8).foldl (fun q _ => checkShift q) (r ^^^ b)

/-- The check byte over `bs`: the register starts at FFh and is sent with no inversion. -/
def checkByte (bs : List Byte) : Byte := bs.foldl checkByteStep 0xFF#8

/-- A signed 4-bit step count. -/
def stepCount (b : Byte) (lo : Nat) : Int := (b.extractLsb' lo 4).toInt

/-- The content of a good reply (R133). -/
structure Reply where
  plugged : Bool
  fault : Bool
  toggle : Bool
  language : Int
  volume : Int
deriving DecidableEq, Repr

/-- A four-byte reply to a poll of `address`, if it is good: the check byte matches, byte 0 has bit 7 clear and names
the address, and both step counts lie from −3 to +3 (R133, R201). -/
def parseReply (b : Vector Byte 4) (address : Nat) : Option Reply :=
  let language := stepCount b[2] 4
  let volume := stepCount b[2] 0
  if b[3] = checkByte [b[0], b[1], b[2]] ∧ b[0].getLsbD 7 = false ∧ (b[0].extractLsb' 0 4).toNat = address
      ∧ -3 ≤ language ∧ language ≤ 3 ∧ -3 ≤ volume ∧ volume ≤ 3 then
    some ⟨b[1].getLsbD 7, b[1].getLsbD 6, b[1].getLsbD 5, language, volume⟩
  else none

/-! ## Request arguments (Register window, code table) -/

/-- The requests by their codes; 0 and 19 to 63 name none. -/
def requestOfCode (code : BitVec 6) : Option RequestKind :=
  match code.toNat with
  | 1 => some .fix
  | 2 => some .announce
  | 3 => some .cancel
  | 4 => some .liveOn
  | 5 => some .liveOff
  | 6 => some .scene
  | 7 => some .deck
  | 8 => some .channelEnable
  | 9 => some .assign
  | 10 => some .release
  | 11 => some .releaseAll
  | 12 => some .claimShadow
  | 13 => some .releaseShadow
  | 14 => some .switch
  | 15 => some .cancelSwitch
  | 16 => some .clearCounters
  | 17 => some .clearCapture
  | 18 => some .portReset
  | _ => none

/-- The rights matrix (R187). -/
def hasRight (p : Port) : RequestKind → Bool
  | .fix => p = .route
  | .announce => p = .route || p = .crew
  | .cancel | .liveOn | .liveOff | .scene | .deck | .channelEnable => p = .crew
  | .assign | .release | .releaseAll => p = .fare
  | .claimShadow | .releaseShadow | .switch | .cancelSwitch => true
  | .clearCounters | .clearCapture | .portReset => true

/-- FIX ARG1: a lap 0–15, or FFFFh for KEEP; `none` for any other encoding (R9, R203). -/
def fixLap (w : Word) : Option (Option Nat) :=
  if w = 0xFFFF#16 then some none
  else if w.toNat ≤ 15 then some (some w.toNat)
  else none

/-- The class bits of ANNOUNCE ARG1; 2 and 3 are no class of a request (R203). -/
def announceClass (w : Word) : Option AnnClass :=
  match field w 14 2 with
  | 0 => some .standard
  | 1 => some .express
  | _ => none

/-- The language set, FLASH and SAFETY bits of ANNOUNCE and LIVE_ON ARG1. -/
def argLanguages (w : Word) : ChannelSet := w.extractLsb' 0 12

def argFlash (w : Word) : Bool := w.getLsbD 13

def argSafety (w : Word) : Bool := w.getLsbD 12

/-- ANNOUNCE ARG2: a launch distance 0–4095, or FFFFh for none; `none` for any other encoding (R106). -/
def launchArg (w : Word) : Option (Option Nat) :=
  if w = 0xFFFF#16 then some none
  else if w.toNat ≤ 4095 then some (some w.toNat)
  else none

/-- DECK ARG0: a channel 0–11, or FFFFh for OFF; `none` for any other encoding (R94). -/
def deckArg (w : Word) : Option (Option ChannelNo) :=
  if w = 0xFFFF#16 then some none
  else (channelOf w.toNat).map some

/-- SWITCH arguments: the lap delta and position, with the NEXT_LAP form standing for delta 1, position 0 (R25). -/
def switchArgs (a : Args) : Nat × Nat :=
  if a.a0.getLsbD 15 then (1, 0) else (field a.a0 0 4, a.a1.toNat)

end Sys2Proof.Machine
end

