-- ==== Sys2Proof/Machine/Channels.lean ====
section
/-!
DEFINITION. What may be done to one channel record (04_language_channels.md): its buffers, its offer and hold, its
resume stack, the stop of its item, its settlement at a disable and its audio request.
-/
namespace Sys2Proof.Machine

/-! ## Classes (R69) -/

/-- Commentary below STANDARD below EXPRESS below LIVE. -/
def AnnClass.rank : AnnClass → Nat
  | .standard => 2
  | .express => 3
  | .live => 4

def ItemClass.rank : ItemClass → Nat
  | .none => 0
  | .commentary => 1
  | .standard => 2
  | .express => 3
  | .live => 4

/-- The item class of an entry's item. -/
def AnnClass.item : AnnClass → ItemClass
  | .standard => .standard
  | .express => .express
  | .live => .live

/-- A commentary context has class commentary, an announcement context its entry's class (R89). -/
def Context.rank : Context → Nat
  | .commentary _ => 1
  | .announcement _ cls => cls.rank

/-! ## Stream pair (R71) -/

def BufName.other : BufName → BufName
  | .x => .y
  | .y => .x

def ChannelRec.buf (ch : ChannelRec) : BufName → Buffer
  | .x => ch.bufX
  | .y => ch.bufY

def ChannelRec.setBuf (ch : ChannelRec) (n : BufName) (b : Buffer) : ChannelRec :=
  match n with
  | .x => { ch with bufX := b }
  | .y => { ch with bufY := b }

/-- A PLAYER-owned buffer is returned to the reader and its contents discarded; a reader-owned one, which may be the
target of the read in flight, stays as it is (R61, R71). -/
def Buffer.returned (b : Buffer) : Buffer :=
  match b.owner with
  | .player => Buffer.empty
  | .reader => b

def ChannelRec.returnBuffers (ch : ChannelRec) : ChannelRec :=
  { ch with bufX := ch.bufX.returned, bufY := ch.bufY.returned }

/-! ## The block the playhead names -/

/-- The group and block offset of the playhead, where it names a group (R75). MODEL'S CHOICE (log entry 34): a playhead
that awaits a record or keeps time between groups is in the group whose step is pending, when a tag is judged (R62). -/
def Playhead.tag : Playhead → Option Tag
  | .chain ch => Option.some ⟨ch.group, ch.offset⟩
  | .clip cl => some ⟨cl.group, cl.offset⟩
  | .none => Option.none
  | .mic _ _ => Option.none

/-- The playable entry at the playhead, once its record has been taken (R58). -/
def Playhead.entry : Playhead → Option LangEntry
  | .chain ch =>
    match ch.phase with
    | .playing e _ _ => some e
    | .awaiting => Option.none
    | .between _ => Option.none
    | .ended => Option.none
  | .clip cl => cl.entry
  | .none => Option.none
  | .mic _ _ => Option.none

/-- The tag buffer `n` would hold for the playhead: the playhead's block for the toggle-selected buffer, the block after
it for the other (R58). -/
def ChannelRec.dueTag (ch : ChannelRec) (n : BufName) : Option Tag :=
  ch.playhead.tag.map fun t => if n = ch.toggle then t else { t with offset := t.offset + 1 }

/-- The channel's audio request (R58): its target buffer and tag. -/
def ChannelRec.audioRequest (ch : ChannelRec) : Option (BufName × Tag) :=
  let clipContent : Bool :=
    match ch.playState with
    | .commentary => true
    | .hold => true
    | .announce => true
    | .quiet => false
    | .live => false
  match ch.playhead.entry with
  | none => none
  | some e =>
    if ch.listened ∧ clipContent then
      let target := if (ch.buf ch.toggle).owner = .reader then ch.toggle else ch.toggle.other
      match ch.dueTag target with
      | some t => if (ch.buf target).owner = .reader ∧ t.offset < e.length then some (target, t) else none
      | none => none
    else none

/-- Both buffers are reader-owned (R59, level 2). -/
def ChannelRec.starving (ch : ChannelRec) : Bool := ch.bufX.owner = .reader && ch.bufY.owner = .reader

/-- A read filled buffer `n` for `tag`: PLAYER-owned with its 512 bytes if the tag is fresh, and otherwise left with the
reader, its contents discarded (R62). -/
def ChannelRec.audioArrived (ch : ChannelRec) (n : BufName) (tag : Tag) (data : List Byte) : ChannelRec :=
  if ch.listened ∧ ch.dueTag n = some tag then ch.setBuf n ⟨.player, some tag, data⟩
  else ch.setBuf n Buffer.empty

/-- Any PLAYER-owned buffer whose tag is not the one the playhead now calls for is returned (R71). -/
def ChannelRec.returnStale (ch : ChannelRec) : ChannelRec :=
  let keep (n : BufName) : Buffer :=
    if (ch.buf n).tag = ch.dueTag n then ch.buf n else (ch.buf n).returned
  { ch with bufX := keep .x, bufY := keep .y }

/-! ## Listening (R76) -/

/-- LISTENED sets or clears; when it clears, both buffers go back to the reader and the full-period flag clears. -/
def ChannelRec.setListened (ch : ChannelRec) (on : Bool) : ChannelRec :=
  if on then { ch with listened := true }
  else { ch.returnBuffers with listened := false, fullPeriod := false }

/-! ## Offers and hold (R78, R84) -/

/-- A channel in COMMENTARY whose offer names a STANDARD entry enters HOLD with the hold advance; a channel in HOLD
whose offer has become none returns to COMMENTARY. -/
def ChannelRec.settleHold (ch : ChannelRec) (advance : Nat) : ChannelRec :=
  match ch.playState, ch.offer with
  | .commentary, some ⟨_, .standard⟩ => { ch with playState := .hold, hold := advance }
  | .hold, none => { ch with playState := .commentary, hold := 0 }
  | _, _ => ch

/-- The queue names the channel's offer anew (R78). -/
def ChannelRec.takeOffer (ch : ChannelRec) (advance : Nat) (o : Option Offer) : ChannelRec :=
  ({ ch with offer := o } : ChannelRec).settleHold advance

/-! ## Items -/

/-- The channel's item ends, is cut or is replaced: its directory request and look-ahead are abandoned, both buffers go
back to the reader, the item class becomes none and the hold record 0 (R57, R71, R88). The play state is QUIET until the
choice at item end decides. -/
def ChannelRec.endItem (ch : ChannelRec) : ChannelRec :=
  { ch.returnBuffers with
    playState := .quiet, itemClass := .none, playhead := .none, fetch := .none, hold := 0 }

/-- The queue stops the channel's announcement or live item: it takes no further block and is not reported (R79, R88).
-/
def ChannelRec.stopItem (ch : ChannelRec) : ChannelRec :=
  match ch.playhead with
  | .clip cl => { ch with playhead := .clip { cl with finished := true, reported := true } }
  | .mic id _ => { ch with playhead := .mic id true }
  | .none => ch
  | .chain _ => ch

/-- The channel is playing entry `id`'s item. -/
def Playhead.plays (ph : Playhead) (id : Nat) : Bool :=
  match ph with
  | .clip cl => cl.id = id
  | .mic i _ => i = id
  | .none => false
  | .chain _ => false

/-! ## Resume stack -/

def Context.isCommentary : Context → Bool
  | .commentary _ => true
  | .announcement _ _ => false

def Context.isEntry (id : Nat) : Context → Bool
  | .announcement i _ => i = id
  | .commentary _ => false

/-- An entry's announcement contexts leave the stack; a context lower down moves up (R92). -/
def ChannelRec.removeEntry (ch : ChannelRec) (id : Nat) : ChannelRec :=
  { ch with stack := ch.stack.filter fun k => !k.isEntry id }

/-- The commentary context leaves the stack (R81). -/
def ChannelRec.removeCommentary (ch : ChannelRec) : ChannelRec :=
  { ch with stack := ch.stack.filter fun k => !k.isCommentary }

/-- Where R82 places a new commentary context: in the place of one already there, below a lone announcement context,
or nowhere when the stack holds two announcement contexts. -/
def placeCommentary (stack : List Context) (k : CommentaryContext) : Option (List Context) :=
  if stack.any Context.isCommentary then
    some (stack.map fun x => if x.isCommentary then .commentary k else x)
  else if stack.length < 2 then some (stack ++ [.commentary k])
  else none

/-- A QUIET cue acts on the channel (R81). -/
def ChannelRec.takeQuiet (ch : ChannelRec) : ChannelRec :=
  let ch := ch.removeCommentary
  match ch.playState with
  | .quiet => { ch with action := .stop }
  | .commentary => { ch with action := .stop }
  | .hold => { ch with action := .stop }
  | .announce => ch
  | .live => ch

/-! ## Disable (R67) -/

/-- What R67 clears at once, after its reports. -/
def ChannelRec.disable (ch : ChannelRec) : ChannelRec :=
  { ch.endItem with enabled := false, stack := [], action := .none, offer := none, output := .silence }

end Sys2Proof.Machine
end

