-- ==== Sys2Proof/Machine/Queue.lean ====
section
/-!
DEFINITION. The announcement queue (05_announcements_and_live_microphone.md): its entries and obligations, offers, the
reports it takes, launch, expiry, cancel, the live entry, the end of an entry, and the commands that belong to it.
-/
namespace Sys2Proof.Machine

/-! ## Entries and obligations -/

/-- OPEN, PLAYING and CUT are the unsettled states (R100). -/
def ObState.unsettled : ObState → Bool
  | .opened => true
  | .playing => true
  | .cut => true
  | .heard => false
  | .unheard => false
  | .dropped => false

/-- The entry's obligation towards channel `c`, if `c` was in its target set. -/
def Entry.obligation (e : Entry) (c : ChannelNo) : Option Obligation := e.obligations.find? fun o => o.channel = c

/-- The state of the entry's obligation towards channel `c`. -/
def Entry.stateOn (e : Entry) (c : ChannelNo) : Option ObState := (e.obligation c).map (·.state)

/-- Some obligation of the entry is unsettled. -/
def Entry.unsettled (e : Entry) : Bool := e.obligations.any fun o => o.state.unsettled

/-- Some channel has started the entry (R122). -/
def Entry.started (e : Entry) : Bool := e.obligations.any fun o => o.listenedAtStart.isSome

/-- Some obligation of the entry is PLAYING (R125). -/
def Entry.isPlaying (e : Entry) : Bool := e.obligations.any fun o => o.state = .playing

/-- The entry's obligation towards channel `c` becomes `f` of itself. -/
def Entry.onChannel (e : Entry) (c : ChannelNo) (f : Obligation → Obligation) : Entry :=
  { e with obligations := e.obligations.map fun o => if o.channel = c then f o else o }

/-- The entry in the queue whose id is `id`. -/
def State.entry (s : State) (id : Nat) : Option Entry := s.queue.entries.find? fun e => e.id = id

/-- The LIVE entry, if one is in the queue. -/
def State.liveEntry (s : State) : Option Entry := s.queue.entries.find? fun e => e.cls = .live

def State.modEntry (s : State) (id : Nat) (f : Entry → Entry) : State :=
  { s with queue := { s.queue with entries := s.queue.entries.map fun e => if e.id = id then f e else e } }

/-- What the channel was in when its obligation's END is settled: HEARD or UNHEARD by listened-at-start (R102). -/
def Obligation.settleHeard (o : Obligation) : Obligation :=
  { o with state := if o.listenedAtStart = some true then .heard else .unheard }

def Obligation.drop (o : Obligation) (cause : DropCause) : Obligation :=
  { o with state := .dropped, cause := some cause }

/-! ## Offers (R104) -/

/-- The first LAUNCHED entry in queue order that holds an OPEN obligation for channel `c`. -/
def eligible (entries : List Entry) (c : ChannelNo) : Option Offer :=
  (entries.find? fun e => e.launched && e.stateOn c = some .opened).map fun e => ⟨e.id, e.cls⟩

/-- The queue renames every enabled channel's offer, and each channel acts on it as it takes it (R78, R84). -/
def State.renameOffers (s : State) : State :=
  let rename (c : ChannelNo) (ch : ChannelRec) : ChannelRec :=
    if ch.enabled then ch.takeOffer s.engine.holdAdvance (eligible s.queue.entries c) else ch
  { s with engine := { s.engine with channels := vmapIdx rename s.engine.channels } }

/-! ## Signals to the lights (R125, R126) -/

/-- FLASH is due: an entry with the FLASH flag has a PLAYING obligation. -/
def flashDue (entries : List Entry) : Bool := entries.any fun e => e.flash && e.isPlaying

/-- SAFETY is due: an EXPRESS entry with the SAFETY flag has a PLAYING obligation. -/
def safetyDue (entries : List Entry) : Bool := entries.any fun e => e.safety && e.cls = .express && e.isPlaying

/-- The queue judges FLASH and SAFETY and hands each change on, FLASH first (log entry 10). -/
def State.judgeSignals (s : State) : State :=
  let flash := flashDue s.queue.entries
  let safety := safetyDue s.queue.entries
  { s with queue :=
      { s.queue with
        flash := flash
        safety := safety
        handed := s.queue.handed
          ++ (if flash = s.queue.flash then [] else [.flash flash])
          ++ (if safety = s.queue.safety then [] else [.safety safety]) } }

/-! ## End and outcome (R120, R121) -/

/-- The outcome of an entry that was not cancelled (R121). -/
def Entry.outcome (e : Entry) : EndOutcome :=
  if e.obligations.any fun o => o.state = .heard then .played
  else if e.obligations.any fun o => o.state = .dropped && o.cause = some .expiry then .expired
  else .unheard

/-- What the capture record takes from an entry that ends EXPIRED (R123). -/
def Entry.captured (e : Entry) : Capture where
  id := e.id
  group := match e.content with
    | .clip g => g
    | .mic => 0
  source := e.source
  lap := (e.expiryTaken.getD (0, 0)).1
  distance := (e.expiryTaken.getD (0, 0)).2

/-- The entry leaves the queue with this outcome: LAST_ANNOUNCE, ANN_END, the outcome counter, the capture record and
the offers (R120 to R123). -/
def State.endEntry (s : State) (e : Entry) (outcome : EndOutcome) : State :=
  let q := s.queue
  let s : State :=
    { s with queue :=
        { q with
          entries := q.entries.filter fun x => x.id ≠ e.id
          liveTimer := if e.cls = .live then none else q.liveTimer
          lastEndedId := e.id
          lastOutcome := outcome
          endCount := (q.endCount + 1) % 256
          capture := if outcome = .expired ∧ q.capture = none then some e.captured else q.capture } }
  ((s.raise .annEnd).countOutcome outcome).renameOffers

/-- The queue judges whether entry `id` has ended: none of its obligations is unsettled (R120). -/
def State.judgeEnd (s : State) (id : Nat) : State :=
  match s.entry id with
  | some e => if e.unsettled then s else s.endEntry e e.outcome
  | none => s

/-- What follows each change of an obligation: the offers, the entry's end, FLASH and SAFETY (R101). -/
def State.afterChange (s : State) (id : Nat) : State := (s.renameOffers.judgeEnd id).judgeSignals

/-! ## Reports from the channel engine (R79, R101, R103) -/

/-- The queue stops channel `c`'s item (R79, R103). -/
def State.stopOn (s : State) (c : ChannelNo) : State := s.modChannel c ChannelRec.stopItem

/-- The state of entry `id`'s obligation towards channel `c`, `none` when the entry has left or owes `c` nothing. -/
def State.obligationState (s : State) (id : Nat) (c : ChannelNo) : Option ObState :=
  match s.entry id with
  | some e => e.stateOn c
  | none => none

/-- An obligation changes, and what follows it. -/
def State.changeObligation (s : State) (id : Nat) (c : ChannelNo) (f : Obligation → Obligation) : State :=
  (s.modEntry id fun e => e.onChannel c f).afterChange id

/-- START: OPEN becomes PLAYING with listened-at-start recorded, and an entry's first START raises ANN_START (R122).
A late START is answered by a stop (R103). -/
def State.reportStart (s : State) (id : Nat) (c : ChannelNo) (listened : Bool) : State :=
  match s.entry id with
  | some e =>
    if e.stateOn c = some .opened then
      let s := if e.started then s else s.raise .annStart
      s.changeObligation id c fun o => { o with state := .playing, listenedAtStart := some listened }
    else s.stopOn c
  | none => s.stopOn c

/-- RESTART: CUT becomes PLAYING, listened-at-start unchanged; a late RESTART is answered by a stop. -/
def State.reportRestart (s : State) (id : Nat) (c : ChannelNo) : State :=
  if s.obligationState id c = some .cut then
    s.changeObligation id c fun o => { o with state := .playing }
  else s.stopOn c

/-- CUT: PLAYING becomes CUT. When the entry has left, its context is removed; a settled obligation is left as it is. -/
def State.reportCut (s : State) (id : Nat) (c : ChannelNo) : State :=
  match s.entry id with
  | some e =>
    if e.stateOn c = some .playing then s.changeObligation id c fun o => { o with state := .cut } else s
  | none => s.modChannel c fun ch => ch.removeEntry id

/-- END: PLAYING is settled from listened-at-start (R102). -/
def State.reportEnd (s : State) (id : Nat) (c : ChannelNo) : State :=
  if s.obligationState id c = some .playing then s.changeObligation id c Obligation.settleHeard else s

/-- UNHEARD: OPEN becomes UNHEARD (R105). -/
def State.reportUnheard (s : State) (id : Nat) (c : ChannelNo) : State :=
  if s.obligationState id c = some .opened then
    s.changeObligation id c fun o => { o with state := .unheard }
  else s

/-- DISCARDED: CUT becomes DROPPED with cause LOSS. -/
def State.reportDiscarded (s : State) (id : Nat) (c : ChannelNo) : State :=
  if s.obligationState id c = some .cut then s.changeObligation id c fun o => o.drop .loss else s

/-- DISABLED: PLAYING becomes DROPPED with cause LOSS. -/
def State.reportDisabled (s : State) (id : Nat) (c : ChannelNo) : State :=
  if s.obligationState id c = some .playing then s.changeObligation id c fun o => o.drop .loss else s

/-! ## Making entries -/

/-- The target set: the channels of the language set that are enabled now, in channel number order (R100). -/
def State.targets (s : State) (set : ChannelSet) : List ChannelNo :=
  (channelsOf set).filter fun c => (s.channel c).enabled

/-- The next free id after the last assigned one, passing from 255 to 1 (R98). -/
def nextId (q : AnnouncementQueue) : Nat :=
  (((List.range 255).map fun k => (q.lastId + k) % 255 + 1).find? fun i =>
    !(q.entries.any fun e => e.id = i)).getD 0

/-- Queue order: after every entry of its own and higher class, before every entry of lower class (R99). -/
def insertEntry (e : Entry) : List Entry → List Entry
  | [] => [e]
  | x :: rest => if e.cls.rank ≤ x.cls.rank then x :: insertEntry e rest else e :: x :: rest

/-- One OPEN obligation for each target (R100). -/
def openObligations (targets : List ChannelNo) : List Obligation :=
  targets.map fun c => ⟨c, .opened, none, none⟩

/-- The entry takes its place and its id is the last assigned (R98, R99); offers are renamed if it is LAUNCHED (R104).
-/
def State.addEntry (s : State) (e : Entry) : State :=
  { s with queue := { s.queue with entries := insertEntry e s.queue.entries, lastId := e.id } }.renameOffers

/-- A trip distance computed by addition stops at 4,294,967,295 (R6, R40, R107). -/
def tripAdd (t d : Nat) : Nat := min (t + d) 4294967295

/-! ## Launch and expiry -/

/-- The distance expiry of the entry is reached (R110). -/
def Entry.expiryReached (e : Entry) (trip : Nat) : Bool :=
  match e.expiry with
  | .trip x => x ≤ trip
  | .seconds _ => false
  | .none => false

/-- When a CREW entry launched at `now` expires (R111). -/
def Entry.timerFrom (e : Entry) (now : Nat) : Option Nat :=
  match e.expiry with
  | .seconds n => some (now + n * second)
  | .trip _ => none
  | .none => none

/-- A WAITING entry is launched (R109). -/
def State.launchEntry (s : State) (id : Nat) : State :=
  (s.modEntry id fun e => { e with launched := true, timer := e.timerFrom s.now }).renameOffers

/-- The entry's expiry is taken (R110, R111): the flag with the lap and distance held now, and its OPEN and CUT
obligations dropped. -/
def State.takeExpiry (s : State) (id : Nat) : State :=
  (s.modEntry id fun e =>
    { e with
      expiryTaken := some (s.route.lap, s.route.distance)
      timer := none
      obligations := e.obligations.map fun o =>
        if o.state = .opened ∨ o.state = .cut then o.drop .expiry else o }).afterChange id

/-- A WAITING entry whose launch trip is reached and whose expiry is not (R109). -/
def Entry.launchDue (e : Entry) (trip : Nat) : Bool :=
  !e.launched && !e.expiryReached trip &&
    match e.launchTrip with
    | some l => l ≤ trip
    | none => false

/-- A distance expiry that is reached and not yet taken (R110). -/
def Entry.expiryDue (e : Entry) (trip : Nat) : Bool := e.expiryReached trip && e.expiryTaken.isNone

/-- The queue judges launches in queue order, then distance expiries, against the trip distance (R109, R110). MODEL'S
CHOICE (log entry 35): the expiries that one change reaches are taken in queue order too. -/
def State.judgeTrip (s : State) : State :=
  let s := (s.queue.entries.filter fun e => e.launchDue s.route.trip).foldl (fun s e => s.launchEntry e.id) s
  (s.queue.entries.filter fun e => e.expiryDue s.route.trip).foldl (fun s e => s.takeExpiry e.id) s

/-! ## Entries made by cues (R108) -/

/-- The queue takes an ANNOUNCE cue with the values of R40; `trip` is the trip distance of the cue's position. -/
def State.takeAnnounceCue (s : State) (q : CueSlot) (trip : Nat) : State :=
  let targets := s.targets q.languages
  if targets = [] then s.countUnheard
  else if s.queue.entries.length ≥ 16 then s.cueDropped
  else
    (s.addEntry
      { id := nextId s.queue
        cls := q.cls
        source := .cue
        content := .clip q.group
        flash := q.flash
        safety := q.safety
        launchTrip := none
        expiry := .trip (tripAdd trip q.expiryDistance)
        launched := true
        expiryTaken := none
        timer := none
        obligations := openObligations targets }).judgeTrip

/-! ## ANNOUNCE (R106, R107) -/

/-- The expiry argument lies within the issuing port's range (R106). -/
def announceExpiryOk (p : Port) (w : Word) : Bool :=
  1 ≤ w.toNat && w.toNat ≤ (if p = .crew then 600 else 4095)

/-- The entry an accepted ANNOUNCE makes (R107): `t` is the trip distance when the request is taken. -/
def announceEntry (s : State) (p : Port) (cls : AnnClass) (launch : Option Nat) (a : Args) : Entry :=
  let t := s.route.trip
  let expiry : Expiry :=
    if p = .crew then .seconds a.a3.toNat
    else .trip (tripAdd (match launch with
      | some l => tripAdd t l
      | none => t) a.a3.toNat)
  let e : Entry :=
    { id := nextId s.queue
      cls := cls
      source := if p = .crew then .crew else .route
      content := .clip a.a0.toNat
      flash := argFlash a.a1
      safety := argSafety a.a1
      launchTrip := launch.map (tripAdd t)
      expiry := expiry
      launched := launch.isNone
      expiryTaken := none
      timer := none
      obligations := openObligations (s.targets (argLanguages a.a1)) }
  { e with timer := if e.launched then e.timerFrom s.now else none }

/-- ANNOUNCE from port `p`, judged in the order of R106. -/
def announceRequest (p : Port) (s : State) (a : Args) : State :=
  match announceClass a.a1 with
  | none => s.answer p .badArgument 0
  | some cls =>
    if p = .route ∧ cls ≠ .standard then s.answer p .noRight 0
    else
      match launchArg a.a2 with
      | none => s.answer p .badArgument 0
      | some launch =>
        if 1023 < a.a0.toNat ∨ argLanguages a.a1 = 0 ∨ (argSafety a.a1 = true ∧ cls = .standard)
            ∨ announceExpiryOk p a.a3 = false then
          s.answer p .badArgument 0
        else if s.reader.catalogue ≠ .ready then s.answer p .notReady 0
        else if s.targets (argLanguages a.a1) = [] then s.answer p .badArgument 0
        else if s.queue.entries.length ≥ 16 then s.answer p .queueFull 0
        else
          let e := announceEntry s p cls launch a
          (s.addEntry e).judgeTrip.answer p .ok (word e.id)

def execAnnounce (p : Port) (s : State) : Host.Outcome State Fault Refusal :=
  .next (s.taking p .announce (announceRequest p s))

/-! ## CANCEL (R112, R113) -/

/-- The queue stops the item of every channel on which the entry is PLAYING. -/
def State.stopPlaying (s : State) (e : Entry) : State :=
  s.forChannels fun s c => if e.stateOn c = some .playing then s.stopOn c else s

/-- The entry's contexts leave every channel's resume stack (R92). -/
def State.removeContexts (s : State) (id : Nat) : State :=
  s.forChannels fun s c => s.modChannel c fun ch => ch.removeEntry id

/-- The queue ends an entry by CANCEL (R113). -/
def State.cancelEntry (s : State) (e : Entry) : State :=
  (((s.stopPlaying e).removeContexts e.id).endEntry e .cancelled).judgeSignals

def cancelRequest (s : State) (a : Args) : State :=
  let id := a.a0.toNat
  if id = 0 ∨ 255 < id then s.answer .crew .badArgument 0
  else
    match s.entry id with
    | none => s.answer .crew .noSuchEntry 0
    | some e => (s.cancelEntry e).answer .crew .ok 0

def execCancel (s : State) : Host.Outcome State Fault Refusal :=
  .next (s.taking .crew .cancel (cancelRequest s))

/-! ## Live microphone (R114 to R118) -/

/-- The entry LIVE_ON makes (R114). -/
def liveOnEntry (s : State) (a : Args) : Entry where
  id := nextId s.queue
  cls := .live
  source := .crew
  content := .mic
  flash := argFlash a.a1
  safety := false
  launchTrip := none
  expiry := .none
  launched := true
  expiryTaken := none
  timer := none
  obligations := openObligations (s.targets (argLanguages a.a1))

/-- LIVE_ON, judged in the order of R114. -/
def liveOnRequest (s : State) (a : Args) : State :=
  if (s.port .crew).silent then s.answer .crew .noRight 0
  else if argLanguages a.a1 = 0 ∨ argSafety a.a1 = true then s.answer .crew .badArgument 0
  else if s.liveEntry.isSome then s.answer .crew .liveActive 0
  else if s.targets (argLanguages a.a1) = [] then s.answer .crew .badArgument 0
  else if s.queue.entries.length ≥ 16 then s.answer .crew .queueFull 0
  else
    let e := liveOnEntry s a
    let s : State :=
      { s with queue := { s.queue with liveTimer := some (s.now + s.queue.liveLimit * second) } }
    (s.addEntry e).answer .crew .ok (word e.id)

def execLiveOn (s : State) : Host.Outcome State Fault Refusal :=
  .next (s.taking .crew .liveOn (liveOnRequest s))

/-- How the end of the LIVE entry settles an obligation (R101, R116). -/
def Obligation.settleLive (o : Obligation) : Obligation :=
  match o.state with
  | .playing => o.settleHeard
  | .opened => { o with state := .unheard }
  | .cut => o
  | .heard => o
  | .unheard => o
  | .dropped => o

/-- The queue ends the LIVE entry, if there is one (R116). -/
def State.endLive (s : State) : State :=
  match s.liveEntry with
  | none => s
  | some e =>
    let settled := { e with obligations := e.obligations.map Obligation.settleLive }
    ((s.stopPlaying e).endEntry settled settled.outcome).judgeSignals

/-- LIVE_OFF (R116). -/
def liveOffRequest (s : State) (_a : Args) : State :=
  if s.liveEntry.isNone then s.answer .crew .noLive 0 else s.endLive.answer .crew .ok 0

def execLiveOff (s : State) : Host.Outcome State Fault Refusal :=
  .next (s.taking .crew .liveOff (liveOffRequest s))

/-- LIVE_TIMER_EXPIRY (R117); a stopped timer does not expire (log entry 3). -/
def liveTimerExpiry (s : State) : State :=
  match s.queue.liveTimer with
  | some t =>
    let s := s.reach t
    { s with queue := { s.queue with liveTimer := none } }.endLive
  | none => s

def execLiveTimerExpiry (s : State) : Host.Outcome State Fault Refusal := .next (liveTimerExpiry s)

/-- ENTRY_EXPIRY_TIMER (R111); a stopped timer does not expire (log entry 3). -/
def entryExpiryTimer (s : State) (id : Nat) : State :=
  match s.entry id with
  | some e =>
    match e.timer with
    | some t => (s.reach t).takeExpiry id
    | none => s
  | none => s

def execEntryExpiryTimer (id : Nat) (s : State) : Host.Outcome State Fault Refusal := .next (entryExpiryTimer s id)

/-! ## Channel disable (R119) -/

/-- The queue settles every OPEN obligation of the channels in `off` as UNHEARD and judges each entry for its end
(R119). MODEL'S CHOICE (log entry 36): the entries are judged, and end, in queue order. -/
def State.queueDisable (s : State) (off : ChannelNo → Bool) : State :=
  let settle (e : Entry) : Entry :=
    { e with obligations := e.obligations.map fun o =>
        if off o.channel ∧ o.state = .opened then { o with state := .unheard } else o }
  let s : State := { s with queue := { s.queue with entries := s.queue.entries.map settle } }
  s.queue.entries.foldl (fun s e => s.afterChange e.id) s

/-! ## CLEAR_CAPTURE (R124) -/

def clearCaptureRequest (p : Port) (s : State) (_a : Args) : State :=
  { s with queue := { s.queue with capture := none } }.answer p .ok 0

def execClearCapture (p : Port) (s : State) : Host.Outcome State Fault Refusal :=
  .next (s.taking p .clearCapture (clearCaptureRequest p s))

end Sys2Proof.Machine
end

