-- ==== Sys2Proof/Machine/Playback.lean ====
section
/-!
DEFINITION. The channel engine at work (04_language_channels.md, and the chains of 03_clip_store_and_store_reader.md):
chains and their look-ahead, cues, the block boundary with its ends, cuts and choice, the player, and the settlement of
disabled channels.
-/
namespace Sys2Proof.Machine

/-! ## Chains (R51 to R53) -/

/-- Where a followed link leads: the chain ends, with a CHAIN_ERROR or without, or the linked group is fetched. -/
inductive LinkStep where
  | ended (error : Bool)
  | fetch (group : Nat)
deriving DecidableEq, Repr

/-- A next-group field followed with `walked` groups counted: the link is judged (R52), then the chain step's limit
(R51). -/
def followLink (limit groupCount walked : Nat) (next : Word) : LinkStep :=
  match judgeLink next groupCount with
  | .finish => .ended false
  | .invalid => .ended true
  | .group g => if limit < walked + 1 then .ended true else .fetch g

/-- The link followed by a channel under the chain limit and group count in force. -/
def State.follow (s : State) (walked : Nat) (next : Word) : LinkStep :=
  followLink s.engine.chainLimit s.reader.groupCount walked next

/-- CHAIN_ERROR where `b` says so. -/
def State.chainErrorIf (s : State) (b : Bool) : State := if b then s.chainError else s

/-- Channel `c`'s playhead is set. -/
def State.setPlayhead (s : State) (c : ChannelNo) (ph : Playhead) : State :=
  s.modChannel c fun ch => { ch with playhead := ph }

/-- Channel `c` requests a directory fetch of group `g` (R57). -/
def State.requestFetch (s : State) (c : ChannelNo) (g : Nat) : State :=
  s.modChannel c fun ch => { ch with fetch := .pending g }

/-- A group becomes the group playing and the look-ahead follows its link at once (R53). -/
def State.enterGroup (s : State) (c : ChannelNo) (k : Chain) (e : LangEntry) (unbroken : Bool) (next : Word) : State :=
  match s.follow k.walked next with
  | .ended err => (s.chainErrorIf err).setPlayhead c (.chain { k with phase := .playing e unbroken .ended })
  | .fetch g =>
    (s.setPlayhead c (.chain { k with phase := .playing e unbroken (.walking g (k.walked + 1)) })).requestFetch c g

/-- The playhead leaves a group whose blocks are over and keeps time from offset 0 while the link is followed (R53). -/
def State.moveOn (s : State) (c : ChannelNo) (k : Chain) (next : Word) : State :=
  match s.follow k.walked next with
  | .ended err => (s.chainErrorIf err).setPlayhead c (.chain { k with phase := .ended })
  | .fetch g =>
    (s.setPlayhead c (.chain { k with group := g, offset := 0, phase := .between (k.walked + 1) })).requestFetch c g

/-- A chain step that begins a chain or resumes one: group `g` with `walked` groups walked before it (R51). -/
def State.beginStep (s : State) (c : ChannelNo) (g offset walked start : Nat) : State :=
  let k : Chain := ⟨g, offset, walked, start, .ended, false⟩
  if s.engine.chainLimit < walked + 1 then s.chainError.setPlayhead c (.chain k)
  else if s.reader.groupCount ≤ g then s.chainError.setPlayhead c (.chain { k with walked := walked + 1 })
  else (s.setPlayhead c (.chain { k with walked := walked + 1, phase := .awaiting })).requestFetch c g

/-- Channel `c` takes up a commentary item: COMMENTARY, the chain step at `g`, and HOLD at once where its offer names a
STANDARD entry (R80, R84, R91). -/
def State.takeUpChain (s : State) (c : ChannelNo) (g offset walked start : Nat) : State :=
  let s := s.modChannel c fun ch =>
    { ch.endItem with playState := .commentary, itemClass := .commentary }
  (s.beginStep c g offset walked start).modChannel c fun ch => ch.settleHold s.engine.holdAdvance

/-! ## Group records (R49, R51 to R54) -/

/-- A fetched record is passed over and its link followed; `k` is the chain and `n` the count the walk has reached.
MODEL'S CHOICE (log entry 33): where the group passed over is the one a start or a resume awaits, the next group keeps
the block offset the playhead has reached. -/
def State.passOver (s : State) (c : ChannelNo) (k : Chain) (n : Nat) (next : Word) : State :=
  match s.follow n next with
  | .ended err =>
    let phase := match k.phase with
      | .playing e u _ => ChainPhase.playing e u .ended
      | .awaiting => .ended
      | .between _ => .ended
      | .ended => .ended
    (s.chainErrorIf err).setPlayhead c (.chain { k with phase := phase })
  | .fetch g =>
    let k' := match k.phase with
      | .playing e u _ => { k with phase := .playing e u (.walking g (n + 1)) }
      | .awaiting => { k with group := g, walked := n + 1 }
      | .between _ => { k with group := g, phase := .between (n + 1) }
      | .ended => k
    (s.setPlayhead c (.chain k')).requestFetch c g

/-- A chain's record is taken and judged (R51 to R53). -/
def State.chainRecord (s : State) (c : ChannelNo) (k : Chain) (r : GroupRecord) : State :=
  let judged := judgeEntry r s.reader.storeSize
  let s := s.chainErrorIf (judged = .invalid)
  match judged, k.phase with
  | .playable e, .awaiting =>
    if k.offset < e.length then s.enterGroup c k e r.unbroken r.next else s.moveOn c k r.next
  | .playable e, .between n =>
    if k.offset < e.length then s.enterGroup c { k with walked := n } e r.unbroken r.next
    else s.moveOn c { k with walked := n } r.next
  | .playable e, .playing e0 u0 (.walking g n) =>
    s.setPlayhead c (.chain { k with phase := .playing e0 u0 (.found g e r.unbroken r.next n) })
  | _, .awaiting => s.passOver c k k.walked r.next
  | _, .between n => s.passOver c k n r.next
  | _, .playing _ _ (.walking _ n) => s.passOver c k n r.next
  | _, .playing _ _ (.found ..) => s
  | _, .playing _ _ .ended => s
  | _, .ended => s

/-- R54 ends an announcement item: the END report is made now, unless none is owed, and the channel's own item ends at
the next boundary. -/
def State.endClipNow (s : State) (c : ChannelNo) (cl : Clip) : State :=
  let s := s.setPlayhead c (.clip { cl with finished := true, reported := true })
  if cl.reported then s else s.reportEnd cl.id c

/-- An announcement's record is taken and judged (R54). -/
def State.clipRecord (s : State) (c : ChannelNo) (cl : Clip) (r : GroupRecord) : State :=
  match judgeEntry r s.reader.storeSize with
  | .playable e =>
    s.setPlayhead c (.clip { cl with entry := some e, finished := cl.finished || e.length ≤ cl.offset })
  | .absent => s.endClipNow c cl
  | .invalid => s.chainError.endClipNow c cl

/-- The record is handed to channel `c`, whose directory request it answers (R63). -/
def State.takeRecord (s : State) (c : ChannelNo) (r : GroupRecord) : State :=
  let s := s.modChannel c fun ch => { ch with fetch := .none }
  match (s.channel c).playhead with
  | .chain k => s.chainRecord c k r
  | .clip cl => s.clipRecord c cl r
  | .none => s
  | .mic _ _ => s

/-! ## Cues (R80 to R82) -/

/-- Channel `c` takes a COMMENTARY cue for group `g`. -/
def State.commentaryCueOn (s : State) (c : ChannelNo) (g : Nat) : State :=
  let begin := s.modChannel c fun ch => { ch with action := .start g s.now }
  let save :=
    match placeCommentary (s.channel c).stack ⟨g, 0, 0, g, s.now⟩ with
    | some stack => s.modChannel c fun ch => { ch with stack := stack }
    | none => s.contextLost
  match (s.channel c).playState with
  | .quiet => begin
  | .commentary => begin
  | .hold => begin
  | .announce => save
  | .live => save

/-- The channel engine takes a COMMENTARY cue: its enabled channels act, the others ignore it (R66, R80). -/
def State.takeCommentaryCue (s : State) (g : Nat) (set : ChannelSet) : State :=
  s.forChannels fun s c => if inSet set c ∧ (s.channel c).enabled then s.commentaryCueOn c g else s

/-- The channel engine takes a QUIET cue (R81). -/
def State.takeQuietCue (s : State) (set : ChannelSet) : State :=
  s.forChannels fun s c =>
    if inSet set c ∧ (s.channel c).enabled then s.modChannel c ChannelRec.takeQuiet else s

/-! ## Step 1 and 2 of the boundary (R70) -/

/-- What the first steps of a boundary have found. `startedAt` is the time the cue was taken of a chain that a START
began at this boundary (R80); `ended` says that the item ended or was cut. -/
structure Progress where
  state : State
  startedAt : Option Nat
  ended : Bool

/-- Step 1: the pending commentary action is applied in QUIET, COMMENTARY or HOLD (R80, R81). -/
def State.applyAction (s : State) (c : ChannelNo) : Progress :=
  let clear (s : State) : State := s.modChannel c fun ch => { ch with action := .none }
  let ch := s.channel c
  let begin (g t : Nat) : Progress := ⟨(clear s).takeUpChain c g 0 0 g, some t, false⟩
  let stop : Progress := ⟨(clear s).modChannel c ChannelRec.endItem, none, true⟩
  match ch.action, ch.playState with
  | .start g t, .quiet => begin g t
  | .start g t, .commentary => begin g t
  | .start g t, .hold => begin g t
  | .stop, .commentary => stop
  | .stop, .hold => stop
  | .stop, .quiet => ⟨clear s, none, false⟩
  | _, _ => ⟨s, none, false⟩

/-- Step 2: whether the current item has ended (R75, R88); a finished clip is reported END here (R79). -/
def State.judgeItemEnd (s : State) (c : ChannelNo) : State × Bool :=
  match (s.channel c).playhead with
  | .chain k =>
    match k.phase with
    | .ended => (s.modChannel c ChannelRec.endItem, true)
    | .awaiting => (s, false)
    | .between _ => (s, false)
    | .playing _ _ _ => (s, false)
  | .clip cl =>
    if cl.finished then
      ((if cl.reported then s else s.reportEnd cl.id c).modChannel c ChannelRec.endItem, true)
    else (s, false)
  | .mic _ stopped => if stopped then (s.modChannel c ChannelRec.endItem, true) else (s, false)
  | .none => (s, false)

/-! ## Step 3: cuts (R85 to R87) -/

/-- A cut by the channel's offer is due: EXPRESS or LIVE over a lower item (R86). -/
def ChannelRec.cutDue (ch : ChannelRec) : Option Offer :=
  match ch.offer with
  | some o => if ch.itemClass ≠ .none ∧ o.cls ≠ .standard ∧ ch.itemClass.rank < o.cls.rank then some o else none
  | none => none

/-- Whether the channel's offer cuts: each EXPRESS turn on a channel that is not LISTENED is reported UNHEARD and the
new offer judged in the same way (R86). The fuel bounds the turns by the entries in the queue. -/
def judgeOfferCut : Nat → State → ChannelNo → State × Bool
  | 0, s, _ => (s, false)
  | fuel + 1, s, c =>
    match (s.channel c).cutDue with
    | some o =>
      if o.cls = .express ∧ (s.channel c).listened = false then judgeOfferCut fuel (s.reportUnheard o.id c) c
      else (s, true)
    | none => (s, false)

/-- The count of groups walked that a cut saves for a chain (R53, R87; log entry 8): the chain's count, with the group
of the playhead in it or not; between groups the count of the group that has played. -/
def Chain.savedCount (k : Chain) : Nat :=
  let own := if Config.savedCountTakesInTheGroup then k.walked else k.walked - 1
  match k.phase with
  | .awaiting => own
  | .playing _ _ _ => own
  | .between _ => k.walked
  | .ended => k.walked

/-- The context a cut saves for a commentary item: none once the chain has ended (R85, R87). -/
def Chain.context (k : Chain) (cutTime : Nat) : Option Context :=
  match k.phase with
  | .ended => none
  | .awaiting => some (.commentary ⟨k.group, k.offset, k.savedCount, k.start, cutTime⟩)
  | .between _ => some (.commentary ⟨k.group, k.offset, k.savedCount, k.start, cutTime⟩)
  | .playing _ _ _ => some (.commentary ⟨k.group, k.offset, k.savedCount, k.start, cutTime⟩)

/-- The bottom context of a full resume stack is lost; an announcement is reported DISCARDED (R87). -/
def State.makeRoom (s : State) (c : ChannelNo) : State :=
  let stack := (s.channel c).stack
  if stack.length < 2 then s
  else
    let s := (s.modChannel c fun ch => { ch with stack := stack.dropLast }).contextLost
    match stack.getLast? with
    | some (.announcement id _) => s.reportDiscarded id c
    | some (.commentary _) => s
    | none => s

/-- A context is pushed on top of channel `c`'s resume stack (R87). -/
def State.pushContext (s : State) (c : ChannelNo) (k : Context) : State :=
  (s.makeRoom c).modChannel c fun ch => { ch with stack := k :: ch.stack }

/-- The class of an announcement item's context. -/
def ItemClass.announced : ItemClass → AnnClass
  | .express => .express
  | .live => .live
  | .standard => .standard
  | .commentary => .standard
  | .none => .standard

/-- The current item is cut: its context is pushed, an announcement is reported CUT, and the item ends (R86, R87). -/
def State.cutItem (s : State) (c : ChannelNo) (startedAt : Option Nat) : State :=
  let ch := s.channel c
  let s :=
    match ch.playhead with
    | .chain k =>
      match k.context (startedAt.getD s.now) with
      | some ctx => s.pushContext c ctx
      | none => s
    | .clip cl => (s.pushContext c (.announcement cl.id ch.itemClass.announced)).reportCut cl.id c
    | .none => s
    | .mic _ _ => s
  s.modChannel c ChannelRec.endItem

/-- The group playing is UNBROKEN; a group whose record is awaited counts as not (R85). -/
def Playhead.unbroken : Playhead → Bool
  | .chain k =>
    match k.phase with
    | .playing _ u _ => u
    | .awaiting => false
    | .between _ => false
    | .ended => false
  | .clip _ => false
  | .none => false
  | .mic _ _ => false

/-- This boundary is the end boundary of the group that was playing (R75). -/
def Playhead.atEnd : Playhead → Bool
  | .chain k => k.atEnd
  | .clip _ => false
  | .none => false
  | .mic _ _ => false

/-- Step 3: the offer's cut, else the hold's (R85, R86). -/
def State.judgeCut (s : State) (c : ChannelNo) (startedAt : Option Nat) : State × Bool :=
  let r := judgeOfferCut (s.queue.entries.length + 1) s c
  if r.2 then (r.1.cutItem c startedAt, true)
  else
    let s := r.1
    let ch := s.channel c
    match ch.playState with
    | .hold =>
      if ch.playhead.atEnd ∨ (ch.hold = 0 ∧ ch.playhead.unbroken = false) then (s.cutItem c startedAt, true)
      else (s.modChannel c fun ch => { ch with hold := ch.hold - 1 }, false)
    | .quiet => (s, false)
    | .commentary => (s, false)
    | .announce => (s, false)
    | .live => (s, false)

/-! ## Step 4: the choice at item end (R89 to R91) -/

/-- The channel becomes QUIET, with an empty resume stack (R87, R89). -/
def State.goQuiet (s : State) (c : ChannelNo) : State :=
  s.modChannel c fun ch => { ch with playState := .quiet, itemClass := .none, playhead := .none, stack := [] }

/-- An announcement clip is put on the channel: ANNOUNCE, the entry's class, CLIP at block 0 (R90). -/
def State.putClip (s : State) (c : ChannelNo) (id g : Nat) (cls : AnnClass) : State :=
  s.modChannel c fun ch =>
    { ch with
      playState := .announce
      itemClass := cls.item
      playhead := .clip ⟨id, g, 0, none, false, false⟩ }

/-- The clip's group is requested, or found beyond the group count (R54). -/
def State.fetchClip (s : State) (c : ChannelNo) (g : Nat) : State :=
  if s.reader.groupCount ≤ g then
    match (s.channel c).playhead with
    | .clip cl => s.chainError.endClipNow c cl
    | .chain _ => s
    | .none => s
    | .mic _ _ => s
  else s.requestFetch c g

/-- An entry whose turn has come begins on channel `c` (R90). -/
def State.beginEntry (s : State) (c : ChannelNo) (e : Entry) : State :=
  let listened := (s.channel c).listened
  match e.content with
  | .mic =>
    (s.modChannel c fun ch =>
      { ch with playState := .live, itemClass := .live, playhead := .mic e.id false }).reportStart e.id c listened
  | .clip g => ((s.putClip c e.id g e.cls).reportStart e.id c listened).fetchClip c g

/-- A popped announcement context restarts its entry (R90). A LIVE item is never cut, so no context is the LIVE entry's.
-/
def State.restartEntry (s : State) (c : ChannelNo) (e : Entry) : State :=
  match e.content with
  | .clip g => ((s.putClip c e.id g e.cls).reportRestart e.id c).fetchClip c g
  | .mic => s.goQuiet c

/-- The offered entry's turn has come: the stack is empty or the entry outranks the top context (R89). -/
def ChannelRec.turn (ch : ChannelRec) : Option Offer :=
  match ch.offer, ch.stack with
  | some o, [] => some o
  | some o, k :: _ => if k.rank < o.cls.rank then some o else none
  | none, _ => none

/-- The top context is popped. -/
def State.popContext (s : State) (c : ChannelNo) : State :=
  s.modChannel c fun ch => { ch with stack := ch.stack.tail }

/-- A commentary context is within the resume window at a boundary taken now (R91). -/
def State.withinWindow (s : State) (k : CommentaryContext) : Bool :=
  s.now - k.cutTime ≤ s.engine.resumeWindow * second

/-- The choice at item end (R89). The fuel bounds its steps: each one but the last settles an obligation or pops a
context. -/
def choose : Nat → State → ChannelNo → State
  | 0, s, c => s.goQuiet c
  | fuel + 1, s, c =>
    match (s.channel c).turn with
    | some o =>
      if o.cls ≠ .live ∧ (s.channel c).listened = false then choose fuel (s.reportUnheard o.id c) c
      else
        match s.entry o.id with
        | some e => s.beginEntry c e
        | none => s.goQuiet c
    | none =>
      match (s.channel c).stack with
      | .announcement id _ :: _ =>
        match s.entry id with
        | some e =>
          if e.stateOn c = some .cut then (s.popContext c).restartEntry c e else choose fuel (s.popContext c) c
        | none => choose fuel (s.popContext c) c
      | .commentary k :: _ =>
        if s.withinWindow k then (s.popContext c).takeUpChain c k.group k.offset k.walked k.start
        else choose fuel (s.popContext c) c
      | [] => s.goQuiet c

/-- Enough fuel for the choice: one step for each entry, one for each context and one to settle it. -/
def State.chooseFuel (s : State) (c : ChannelNo) : Nat :=
  s.queue.entries.length + (s.channel c).stack.length + 1

/-! ## Step 5: the player (R72 to R75) -/

/-- The playhead moves past the block due, taken or missed (R72, R75). -/
def State.advance (s : State) (c : ChannelNo) : State :=
  match (s.channel c).playhead with
  | .chain k =>
    match k.phase with
    | .awaiting => s.setPlayhead c (.chain { k with offset := k.offset + 1, atEnd := false })
    | .between _ => s.setPlayhead c (.chain { k with offset := k.offset + 1, atEnd := false })
    | .ended => s
    | .playing e _ ahead =>
      if k.offset + 1 < e.length then s.setPlayhead c (.chain { k with offset := k.offset + 1, atEnd := false })
      else
        match ahead with
        | .found g e' u' next n =>
          s.enterGroup c { k with group := g, offset := 0, walked := n, atEnd := true } e' u' next
        | .walking g n =>
          s.setPlayhead c (.chain { k with group := g, offset := 0, phase := .between n, atEnd := true })
        | .ended =>
          s.setPlayhead c
            (.chain { k with offset := k.offset + 1, phase := .ended, atEnd := true })
  | .clip cl =>
    let last : Bool :=
      match cl.entry with
      | some e => e.length ≤ cl.offset + 1
      | none => false
    s.setPlayhead c (.clip { cl with offset := cl.offset + 1, finished := cl.finished || last })
  | .none => s
  | .mic _ _ => s

/-- The toggle-selected buffer holds the block the playhead names (R72). -/
def ChannelRec.blockReady (ch : ChannelRec) : Bool :=
  let b := ch.buf ch.toggle
  ch.playhead.entry.isSome && b.owner = .player && b.tag = ch.playhead.tag

/-- A boundary at which a block is due: the player takes it or underruns, flips the toggle and moves on (R72, R73). -/
def State.playBlock (s : State) (c : ChannelNo) : State :=
  let ch := s.channel c
  let s :=
    if ch.blockReady then
      s.modChannel c fun ch =>
        let b := ch.buf ch.toggle
        { ch.setBuf ch.toggle Buffer.empty with
          output := if ch.listened then .samples (b.data.map expand) else .silence
          toggle := ch.toggle.other }
    else
      (if ch.listened && ch.fullPeriod then s.countUnderrun c else s).modChannel c fun ch =>
        { ch with output := .silence, toggle := ch.toggle.other }
  (s.advance c).modChannel c ChannelRec.returnStale

/-- Step 5 of R70: `began` says that the item began at this boundary, so that no block of it is due (R74, R75). -/
def State.play (s : State) (c : ChannelNo) (began : Bool) : State :=
  let put (o : Output) : State := s.modChannel c fun ch => { ch with output := o }
  match (s.channel c).playState with
  | .quiet => put .silence
  | .live => put (if (s.channel c).listened then .microphone else .silence)
  | .commentary => if began then put .silence else s.playBlock c
  | .hold => if began then put .silence else s.playBlock c
  | .announce => if began then put .silence else s.playBlock c

/-! ## The block boundary (R70) -/

/-- Steps 1 to 3: the pending action, the item's end, a cut. -/
def State.judgeItem (s : State) (c : ChannelNo) : Progress :=
  let p := s.applyAction c
  if p.ended then p
  else
    let r := p.state.judgeItemEnd c
    if r.2 then ⟨r.1, p.startedAt, true⟩
    else
      let r := r.1.judgeCut c p.startedAt
      ⟨r.1, p.startedAt, r.2⟩

/-- Channel `c` is settled at a block boundary, in the six steps of R70. -/
def State.settleChannel (s : State) (c : ChannelNo) : State :=
  if (s.channel c).enabled then
    let p := s.judgeItem c
    let ch := p.state.channel c
    let due := p.ended || (ch.playState = .quiet && ch.offer.isSome)
    let s := if due then choose (p.state.chooseFuel c) p.state c else p.state
    (s.play c (due || p.startedAt.isSome)).modChannel c fun ch => { ch with fullPeriod := ch.listened }
  else s

/-- BLOCK_BOUNDARY (R70): every enabled channel is settled; the deck output takes the deck channel and volume (R95). -/
def blockBoundary (s : State) : State :=
  let s := (s.reach s.engine.nextBoundary).forChannels State.settleChannel
  { s with engine :=
      { s.engine with
        nextBoundary := s.engine.nextBoundary + blockPeriod
        deckOutChannel := s.engine.deckChannel
        deckOutVolume := s.engine.deckVolume } }

def execBlockBoundary (s : State) : Host.Outcome State Fault Refusal := .next (s.running blockBoundary)

/-! ## Disabling (R66, R67) -/

/-- Channel `c`, enabled until now, is settled at once (R67). MODEL'S CHOICE: where it holds two announcement contexts,
the top one is reported discarded first (log entry 36). -/
def State.settleDisable (s : State) (c : ChannelNo) : State :=
  let s :=
    match (s.channel c).playhead with
    | .clip cl => s.reportDisabled cl.id c
    | .mic id _ => s.reportDisabled id c
    | .none => s
    | .chain _ => s
  let s := (s.channel c).stack.foldl (fun s k =>
    match k with
    | .announcement id _ => s.reportDiscarded id c
    | .commentary _ => s) s
  s.modChannel c ChannelRec.disable

/-- The channel engine takes a new enabled set (R66, R67). -/
def State.engineEnable (s : State) (set : ChannelSet) : State :=
  s.forChannels fun s c =>
    if inSet set c then s.modChannel c fun ch => { ch with enabled := true }
    else if (s.channel c).enabled then s.settleDisable c
    else s

end Sys2Proof.Machine
end

