-- ==== Sys2Proof/Machine/Roster.lean ====
section
/-!
DEFINITION. The seat roster (07_seat_roster_and_assignments.md): reports, key steps, the census and LISTENED, effective
volume, and the commands that belong to it, with DECK, whose deck channel it takes.
-/
namespace Sys2Proof.Machine

/-! ## Effective volume (R162) -/

/-- Seats 0 to 63 are on the upper deck (R128). -/
def isUpper (i : SeatNo) : Bool := i.val < 64

/-- The volume plus the wind trim of the band, limited to 15, on the upper deck; the volume on the lower (R162). -/
def effectiveVolume (r : Roster) (i : SeatNo) (volume : Nat) : Nat :=
  if isUpper i then min (volume + r.trims[r.band]) 15 else volume

/-- Every seat's effective volume recomputed. -/
def Roster.recomputeVolumes (r : Roster) : Roster :=
  { r with seats := vmapIdx (fun i x => { x with effective := effectiveVolume r i x.volume }) r.seats }

/-! ## Census and LISTENED (R157, R158) -/

/-- The seat is a listener of channel `c`, given the enabled set (R157). -/
def Seat.listens (x : Seat) (enabled : ChannelSet) (c : ChannelNo) : Bool :=
  x.language = some c && inSet enabled c && x.station = .present && x.plugged && !x.fault

/-- The number of listeners of channel `c`. -/
def Roster.count (r : Roster) (c : ChannelNo) : Nat := r.seats.toList.countP fun x => x.listens r.enabled c

/-- A channel is LISTENED while its census is above 0 or it is the deck channel (R158). -/
def Roster.isListened (r : Roster) (c : ChannelNo) : Bool := 0 < r.census[c] || r.deck = some c

/-- LISTENED is judged for every channel, and each change recorded and handed to the channel engine (R158, R76). -/
def State.judgeListened (s : State) : State :=
  let r := s.roster
  let hand (c : ChannelNo) (ch : ChannelRec) : ChannelRec :=
    if r.isListened c = r.listened[c] then ch else ch.setListened (r.isListened c)
  { s with
    roster := { r with listened := vtab fun c => r.isListened c }
    engine := { s.engine with channels := vmapIdx hand s.engine.channels } }

/-- Every census is recomputed, and LISTENED judged from it (R157, R158). -/
def State.recount (s : State) : State :=
  { s with roster := { s.roster with census := vtab fun c => s.roster.count c } }.judgeListened

/-! ## SEAT_EVENT (R156) -/

/-- The fields whose change raises SEAT_EVENT stand alike in the two records. -/
def Seat.sameEvent (x y : Seat) : Bool :=
  x.station = y.station && x.plugged = y.plugged && x.fault = y.fault && x.language = y.language
    && x.assignedBy = y.assignedBy && x.lock = y.lock && x.tag = y.tag && x.volume = y.volume

/-- A report or request that changed a field moves the change count and raises SEAT_EVENT once. -/
def State.seatEvent (s : State) (changed : Bool) : State :=
  if changed then
    { s with roster := { s.roster with changeCount := (s.roster.changeCount + 1) % 256 } }.raise .seatEvent
  else s

/-- One seat's record becomes `y`, the censuses are recounted, and SEAT_EVENT follows any change. -/
def State.putSeat (s : State) (i : SeatNo) (y : Seat) : State :=
  let x := s.seat i
  ({ s with roster := { s.roster with seats := s.roster.seats.set i y } }.recount).seatEvent (!(x.sameEvent y))

/-! ## Key steps (R153 to R155) -/

/-- The first enabled channel met going up (`up`) or down from a place, wrapping; NONE stands below 0 and above 11. -/
def stepLanguage (enabled : ChannelSet) (up : Bool) (language : Option ChannelNo) : Option ChannelNo :=
  let order : List ChannelNo :=
    match language, up with
    | none, true => List.finRange 12
    | none, false => (List.finRange 12).reverse
    | some c, true => (List.finRange 12).map fun k => c + 1 + k
    | some c, false => (List.finRange 12).map fun k => c - 1 - k
  match order.find? fun c => inSet enabled c with
  | some c => some c
  | none => language

/-- `n` language steps in one direction. -/
def stepLanguages (enabled : ChannelSet) (up : Bool) : Nat → Option ChannelNo → Option ChannelNo
  | 0, language => language
  | n + 1, language => stepLanguages enabled up n (stepLanguage enabled up language)

/-- A report's language steps: refused on a locked seat, whose lock-indicator timer starts; without effect when no
channel is enabled; otherwise applied, and assigned-by becomes SEAT (R153, R154). -/
def Seat.languageSteps (x : Seat) (enabled : ChannelSet) (now : Nat) (steps : Int) : Seat :=
  if steps = 0 then x
  else if x.lock then { x with lockTimer := some (now + lockIndicatorTime) }
  else if enabled = 0 then x
  else
    { x with
      language := stepLanguages enabled (0 < steps) steps.natAbs x.language
      assignedBy := .seat }

/-- A report's volume steps, limited to 0–15 (R155). -/
def volumeSteps (volume : Nat) (steps : Int) : Nat := (max 0 (min 15 ((volume : Int) + steps))).toNat

/-! ## Reports from the seat bus (R140, R150) -/

/-- A report for one seat. A report of a miss may carry the state alone. -/
structure Report where
  station : StationState
  plugged : Option Bool
  fault : Option Bool
  language : Int
  volume : Int
deriving DecidableEq, Repr

/-- The seat's record after a report, in the order of R150: copies, language steps, volume steps. -/
def Seat.afterReport (x : Seat) (r : Roster) (i : SeatNo) (now : Nat) (m : Report) : Seat :=
  let x := { x with station := m.station, plugged := m.plugged.getD x.plugged, fault := m.fault.getD x.fault }
  let x := x.languageSteps r.enabled now m.language
  let volume := volumeSteps x.volume m.volume
  if volume = x.volume then x else { x with volume := volume, effective := effectiveVolume r i volume }

/-- The roster takes a report whole (R150). -/
def State.takeReport (s : State) (i : SeatNo) (m : Report) : State :=
  s.putSeat i ((s.seat i).afterReport s.roster i s.now m)

/-! ## ASSIGN, RELEASE, RELEASE_ALL (R151, R152) -/

/-- The record an accepted ASSIGN writes. -/
def Seat.assigned (x : Seat) (language : ChannelNo) (lock : Bool) (tag : Option (BitVec 32)) : Seat :=
  { x with language := some language, assignedBy := .fare, lock := lock, tag := tag, lockTimer := none }

/-- The record of a freed seat. -/
def Seat.freed (x : Seat) : Seat :=
  { x with language := none, assignedBy := .none, lock := false, tag := none, lockTimer := none }

/-- ASSIGN, judged in the order of R151. MODEL'S CHOICE: of the tag's two halves, ARG2 is the upper and ARG3 the lower
(log entry 39). -/
def assignRequest (s : State) (a : Args) : State :=
  let tag : Option (BitVec 32) := if a.a1.getLsbD 15 then some (a.a2 ++ a.a3) else none
  if h : a.a0.toNat < 96 then
    match channelOf (field a.a1 0 8) with
    | none => s.answer .fare .badArgument 0
    | some c =>
      if inSet s.roster.enabled c = false then s.answer .fare .badArgument 0
      else if 1 < field a.a1 8 2 then s.answer .fare .badArgument 0
      else
        let i : SeatNo := ⟨a.a0.toNat, h⟩
        (s.putSeat i ((s.seat i).assigned c (field a.a1 8 2 = 1) tag)).answer .fare .ok 0
  else s.answer .fare .badArgument 0

def execAssign (s : State) : Host.Outcome State Fault Refusal :=
  .next (s.taking .fare .assign (assignRequest s))

/-- RELEASE (R152). -/
def releaseRequest (s : State) (a : Args) : State :=
  if h : a.a0.toNat < 96 then
    let i : SeatNo := ⟨a.a0.toNat, h⟩
    (s.putSeat i (s.seat i).freed).answer .fare .ok 0
  else s.answer .fare .badArgument 0

def execRelease (s : State) : Host.Outcome State Fault Refusal :=
  .next (s.taking .fare .release (releaseRequest s))

/-- RELEASE_ALL (R152): every seat is freed in one step, with one recount and one SEAT_EVENT. -/
def releaseAllRequest (s : State) (_a : Args) : State :=
  let changed := s.roster.seats.toList.any fun x => !(x.sameEvent x.freed)
  (({ s with roster := { s.roster with seats := vmap Seat.freed s.roster.seats } }.recount).seatEvent changed).answer
    .fare .ok 0

def execReleaseAll (s : State) : Host.Outcome State Fault Refusal :=
  .next (s.taking .fare .releaseAll (releaseAllRequest s))

/-! ## CHANNEL_ENABLE (R160, R161) -/

/-- CHANNEL_ENABLE: the new set, every census and LISTENED, then the channel engine and the queue take the set. -/
def channelEnableRequest (s : State) (a : Args) : State :=
  if field a.a0 12 4 ≠ 0 then s.answer .crew .badArgument 0
  else
    let set : ChannelSet := a.a0.extractLsb' 0 12
    let old := s.roster.enabled
    let s := ({ s with roster := { s.roster with enabled := set } }.answer .crew .ok 0).recount
    (s.engineEnable set).queueDisable fun c => inSet old c && !inSet set c

def execChannelEnable (s : State) : Host.Outcome State Fault Refusal :=
  .next (s.taking .crew .channelEnable (channelEnableRequest s))

/-! ## DECK (R94, R159) -/

/-- DECK: the channel engine sets both values and hands the deck channel to the roster, which judges LISTENED. -/
def deckRequest (s : State) (a : Args) : State :=
  match deckArg a.a0 with
  | none => s.answer .crew .badArgument 0
  | some deck =>
    if 15 < a.a1.toNat then s.answer .crew .badArgument 0
    else
      ({ s with
          engine := { s.engine with deckChannel := deck, deckVolume := a.a1.toNat }
          roster := { s.roster with deck := deck } }.judgeListened).answer .crew .ok 0

def execDeck (s : State) : Host.Outcome State Fault Refusal :=
  .next (s.taking .crew .deck (deckRequest s))

/-! ## LOCK_INDICATOR_EXPIRY (R154) -/

/-- The seat's lock-indicator timer expires and stops; a stopped timer does not expire (log entry 3). -/
def lockIndicatorExpiry (s : State) (i : SeatNo) : State :=
  match (s.seat i).lockTimer with
  | some t =>
    let s := s.reach t
    { s with roster := { s.roster with seats := vmod s.roster.seats i fun x => { x with lockTimer := none } } }
  | none => s

def execLockIndicatorExpiry (seat : SeatNo) (s : State) : Host.Outcome State Fault Refusal :=
  .next (lockIndicatorExpiry s seat)

/-! ## Speed band (R8, R162) -/

/-- The roster takes a new speed band. -/
def State.takeBand (s : State) (band : Fin 4) : State :=
  { s with roster := { s.roster with band := band }.recomputeVolumes }

end Sys2Proof.Machine
end

