-- ==== Sys2Proof/Machine/Bus.lean ====
section
/-!
DEFINITION. The seat bus controller (06_seat_bus_and_seat_stations.md): poll cycles, POLL frames, the judgement of
replies and misses, and the commands that belong to it.
-/
namespace Sys2Proof.Machine

/-- The seat at address `a` of segment `g` (R128). -/
def seatAt (g : SegmentNo) (a : Nat) : SeatNo := ⟨g.val * 16 + a % 16, by omega⟩

/-! ## The poll cycle (R131) -/

/-- The first address from `a` on that is polled in a cycle with this count: an ABSENT station is passed over unless the
count is 0. -/
def nextPolled (s : State) (g : SegmentNo) (cycleCount : Nat) : Nat → Nat → Option Nat
  | 0, _ => none
  | left + 1, a =>
    if (s.station (seatAt g a)).state = .absent ∧ cycleCount ≠ 0 then nextPolled s g cycleCount left (a + 1)
    else some a

/-- The cursor of segment `g` reaches address `a`: it stops at the next address to be polled, or the cycle ends and the
cycle count increases. -/
def State.moveCursor (s : State) (g : SegmentNo) (a : Nat) : State :=
  match nextPolled s g (s.segment g).cycleCount (16 - a) a with
  | some b => s.modSegment g fun x => { x with cursor := b }
  | none => s.modSegment g fun x => { x with cursor := 0, inCycle := false, cycleCount := (x.cycleCount + 1) % 8 }

/-- CYCLE_START (R131): once the cycle before has ended, and no sooner than 2.0 ms after it began. -/
def cycleStart (g : SegmentNo) (s : State) : State :=
  let x := s.segment g
  if x.inCycle then s
  else
    let s := (s.reach (x.cycleBegan + cyclePeriod)).reach x.readyAt
    (s.modSegment g fun x => { x with inCycle := true, cycleBegan := s.now }).moveCursor g 0

def execCycleStart (g : SegmentNo) (s : State) : Host.Outcome State Fault Refusal :=
  .next (s.running (cycleStart g))

/-! ## Building the POLL (R143 to R145) -/

/-- A seat's language is a channel the roster's enabled set does not hold (R143). -/
def Seat.withdrawn (x : Seat) (enabled : ChannelSet) : Bool :=
  match x.language with
  | some c => !inSet enabled c
  | none => false

/-- The slot: 0–11, or 0Fh for MUTE (R143). -/
def pollSlot (x : Seat) (fault : Bool) (enabled : ChannelSet) : Byte :=
  if fault then 0x0F#8
  else
    match x.language with
    | none => 0x0F#8
    | some c => if inSet enabled c then BitVec.ofNat 8 c.val else 0x0F#8

/-- The two display characters (R144): two spaces, "--", or the label of the seat's channel. -/
def pollDisplay (s : State) (x : Seat) (fault : Bool) : Byte × Byte :=
  if fault then (0x20#8, 0x20#8)
  else
    match x.language with
    | none => (0x2D#8, 0x2D#8)
    | some c => ((s.channel c).label0, (s.channel c).label1)

/-- The indicator: 3 FAULT, 2 WITHDRAWN, 1 LOCKED, 0 NORMAL (R145). -/
def pollIndicator (x : Seat) (fault : Bool) (enabled : ChannelSet) : Nat :=
  if fault then 3
  else if x.withdrawn enabled then 2
  else if x.lockTimer.isSome then 1
  else 0

/-- The seven bytes of a POLL of seat `i` at address `a` (10, POLL bytes; R139, R143 to R145, R201). MODEL'S CHOICE (log
entry 37): bits 7 to 5 and 3 to 2 of byte 3, which the layout gives to no field, are sent as 0. -/
def pollFrame (s : State) (i : SeatNo) (a : Nat) : Vector Byte 7 :=
  let x := s.seat i
  let st := s.station i
  let display := pollDisplay s x st.fault
  let b0 : Byte := 0x80#8 ||| BitVec.ofNat 8 (a % 16)
  let b1 := pollSlot x st.fault s.roster.enabled
  let b2 : Byte := BitVec.ofNat 8 x.effective
  let b3 : Byte := (if st.baseline then 0x10#8 else 0#8)
    ||| BitVec.ofNat 8 (pollIndicator x st.fault s.roster.enabled)
  #v[b0, b1, b2, b3, display.1, display.2, checkByte [b0, b1, b2, b3, display.1, display.2]]

/-- POLL (R132): the frame is built from what stands now and sent, and the reply window opens as its last byte ends. -/
def poll (g : SegmentNo) (s : State) : State :=
  let x := s.segment g
  if x.inCycle ∧ x.poll = none then
    let s := s.reach x.readyAt
    let sent : PollInFlight :=
      ⟨pollFrame s (seatAt g x.cursor) x.cursor, s.now + pollTime, s.now + pollTime + replyWindow⟩
    s.modSegment g fun x => { x with poll := some sent }
  else s

def execPoll (g : SegmentNo) (s : State) : Host.Outcome State Fault Refusal := .next (s.running (poll g))

/-! ## Good replies and misses (R135 to R142) -/

/-- The station record after a good reply, and whether the toggle rule takes its steps (R135, R138, R142). -/
def Station.goodReply (st : Station) (m : Reply) : Station × Bool :=
  match st.state with
  | .absent => (⟨.joining, 0, m.toggle, m.fault⟩, false)
  | .joining => (⟨.present, st.misses, m.toggle, m.fault⟩, m.toggle != st.baseline)
  | .present => (⟨.present, 0, m.toggle, m.fault⟩, m.toggle != st.baseline)
  | .lost => (⟨.joining, 0, m.toggle, m.fault⟩, false)

/-- A station that becomes ABSENT clears FAULT and keeps its baseline (R136, R137). -/
def Station.gone (st : Station) : Station := ⟨.absent, 0, st.baseline, false⟩

/-- The station record after a miss (R136). -/
def Station.missed (st : Station) : Station :=
  match st.state with
  | .absent => st
  | .joining => st.gone
  | .present => if st.misses + 1 < 3 then { st with misses := st.misses + 1 } else { st with state := .lost, misses := 0 }
  | .lost => if st.misses + 1 < 32 then { st with misses := st.misses + 1 } else st.gone

/-- A station record is replaced, and a change of FAULT raises STATION_FAULT (R142). -/
def State.putStation (s : State) (i : SeatNo) (y : Station) : State :=
  let x := s.station i
  let s := s.modStation i fun _ => y
  if x.fault = y.fault then s else s.raise .stationFault

/-- A good reply is taken whole: the station record, and one report to the roster (R133, R140). -/
def State.goodReply (s : State) (i : SeatNo) (m : Reply) : State :=
  let r := (s.station i).goodReply m
  (s.putStation i r.1).takeReport i
    ⟨r.1.state, some m.plugged, some m.fault, if r.2 then m.language else 0, if r.2 then m.volume else 0⟩

/-- A miss: the station record, and a report when its state changes, with the jack and FAULT when it becomes ABSENT
(R136, R137, R140). -/
def State.miss (s : State) (i : SeatNo) : State :=
  let x := s.station i
  let y := x.missed
  let s := s.putStation i y
  if x.state = y.state then s
  else if y.state = .absent then s.takeReport i ⟨.absent, some false, some false, 0, 0⟩
  else s.takeReport i ⟨y.state, none, none, 0, 0⟩

/-- The poll in flight has ended: after the gap the cursor moves on (R132). -/
def State.endPoll (s : State) (g : SegmentNo) : State :=
  (s.modSegment g fun x => { x with poll := none, readyAt := s.now + pollGap }).moveCursor g
    ((s.segment g).cursor + 1)

/-- REPLY (R133): a good reply, or a miss with a framing error. With no poll in flight there is no window (log
entry 3). -/
def reply (s : State) (g : SegmentNo) (bytes : Vector Byte 4) : State :=
  let x := s.segment g
  match x.poll with
  | none => s
  | some p =>
    let s := s.reach (p.opens + replyTime)
    let i := seatAt g x.cursor
    let s :=
      match parseReply bytes x.cursor with
      | some m => s.goodReply i m
      | none => (s.countFraming g).miss i
    s.endPoll g

def execReply (g : SegmentNo) (bytes : Vector Byte 4) (s : State) : Host.Outcome State Fault Refusal :=
  .next (reply s g bytes)

/-- REPLY_WINDOW_EXPIRY (R133): a miss, with a framing error when some bytes were received. -/
def replyWindowExpiry (s : State) (g : SegmentNo) (received : Nat) : State :=
  let x := s.segment g
  match x.poll with
  | none => s
  | some p =>
    let s := s.reach p.closes
    ((if received = 0 then s else s.countFraming g).miss (seatAt g x.cursor)).endPoll g

def execReplyWindowExpiry (g : SegmentNo) (received : Nat) (s : State) : Host.Outcome State Fault Refusal :=
  .next (replyWindowExpiry s g received)

end Sys2Proof.Machine
end

