-- ==== Sys2Proof/Machine/Lights.lean ====
section
/-!
DEFINITION. The light controller (08_upper_deck_lighting.md): pending levels, scenes, fades, the ambient converter, the
flash and the safety override, and the commands that belong to it.
-/
namespace Sys2Proof.Machine

/-! ## The pending level (R167) -/

/-- The scale of an ambient class (R175). -/
def Lights.scaleOf (l : Lights) : Ambient → Nat
  | .day => l.dayScale
  | .dusk => l.duskScale
  | .night => l.nightScale

/-- The mode and pending level of zone `z` with this current level: the first case of R167 that applies. -/
def Lights.pendingOf (l : Lights) (z : Fin 8) (current : Nat) : ZoneMode × Nat :=
  if l.safetyActive then (.safety, 255)
  else if l.flashActive ∧ inZones l.flashMask z then (.flash, if l.phaseOn then 255 else 0)
  else if inZones l.exempt z then (.exempt, current)
  else (.scaled, current * l.scaleOf l.ambient / 256)

/-- Every zone's pending level and mode recomputed from the inputs as they stand (R167). -/
def Lights.recompute (l : Lights) : Lights :=
  { l with zones := vmapIdx (fun z zone =>
      { zone with pending := (l.pendingOf z zone.current).2, mode := (l.pendingOf z zone.current).1 }) l.zones }

/-! ## Scenes and fades -/

/-- Scene `k` is applied (R169). -/
def Lights.applyScene (l : Lights) (k : Fin 16) : Lights :=
  let scene := l.scenes[k]
  Lights.recompute
    { l with
      zones := vmapIdx (fun z zone =>
        { zone with
          target := scene.levels[z]
          current := if scene.rate = 0 then scene.levels[z] else zone.current }) l.zones
      sceneInForce := some k
      rate := scene.rate
      exempt := scene.exempt }

/-- One fade step of a level towards its target by at most `rate` (R171). -/
def fadeTowards (rate current target : Nat) : Nat :=
  if current < target then min (current + rate) target else max (current - rate) target

def Lights.fade (l : Lights) : Lights :=
  Lights.recompute
    { l with zones := vmap (fun zone => { zone with current := fadeTowards l.rate zone.current zone.target }) l.zones }

/-! ## The ambient converter -/

/-- The class a sample indicates (R173). -/
def Lights.indication (l : Lights) (sample : Nat) : Ambient :=
  if l.dayThreshold < sample then .day
  else if sample < l.nightThreshold then .night
  else .dusk

/-- The class candidate takes an indication (R174). -/
def Lights.advanceCandidate (l : Lights) (i : Ambient) : Lights :=
  if i = l.ambient then { l with candidate := none, candidateCount := 0 }
  else if l.candidate = some i then
    if l.candidateCount + 1 ≥ 4 then
      Lights.recompute { l with ambient := i, candidate := none, candidateCount := 0 }
    else { l with candidateCount := l.candidateCount + 1 }
  else { l with candidate := some i, candidateCount := 1 }

/-! ## The overrides -/

/-- The light controller takes a FLASH change (R176). -/
def Lights.takeFlash (l : Lights) (now : Nat) (active : Bool) : Lights :=
  if active = l.flashActive then l
  else if active then
    Lights.recompute
      { l with flashActive := true, phaseOn := true, flashTimer := some (now + l.halfPeriod * millisecond) }
  else Lights.recompute { l with flashActive := false, flashTimer := none }

/-- The light controller takes a SAFETY change (R178). -/
def Lights.takeSafety (l : Lights) (active : Bool) : Lights :=
  if active = l.safetyActive then l else Lights.recompute { l with safetyActive := active }

/-! ## Commands -/

/-- The light controller takes a SCENE cue or an accepted SCENE request (R169). -/
def State.applyScene (s : State) (k : Fin 16) : State := { s with lights := s.lights.applyScene k }

/-- SCENE (R170). -/
def sceneRequest (s : State) (a : Args) : State :=
  if h : a.a0.toNat < 16 then (s.applyScene ⟨a.a0.toNat, h⟩).answer .crew .ok 0
  else s.answer .crew .badArgument 0

def execScene (s : State) : Host.Outcome State Fault Refusal :=
  .next (s.taking .crew .scene (sceneRequest s))

/-- PWM_PERIOD_START (R166): every pending level is copied to its applied level. -/
def pwmPeriodStart (s : State) : State :=
  let s := s.reach s.lights.nextPwm
  { s with lights :=
      { s.lights with
        zones := vmap (fun zone => { zone with applied := zone.pending }) s.lights.zones
        nextPwm := s.lights.nextPwm + pwmPeriod } }

def execPwmPeriodStart (s : State) : Host.Outcome State Fault Refusal := .next (s.running pwmPeriodStart)

/-- FADE_STEP (R171). -/
def fadeStep (s : State) : State :=
  let s := s.reach s.lights.nextFade
  { s with lights := { s.lights.fade with nextFade := s.lights.nextFade + fadePeriod } }

def execFadeStep (s : State) : Host.Outcome State Fault Refusal := .next (s.running fadeStep)

/-- CONVERSION_START (R172). -/
def conversionStart (s : State) : State :=
  let s := s.reach s.lights.nextConversion
  { s with lights :=
      { s.lights with
        run := true
        nextConversion := s.lights.nextConversion + conversionPeriod
        conversionEnd := s.now + conversionTime } }

def execConversionStart (s : State) : Host.Outcome State Fault Refusal := .next (s.running conversionStart)

/-- CONVERSION_COMPLETE (R172 to R174); with no conversion running there is nothing to complete (log entry 3). -/
def conversionComplete (s : State) (sample : BitVec 10) : State :=
  if s.lights.run then
    let s := s.reach s.lights.conversionEnd
    let l := { s.lights with sample := sample.toNat, run := false }
    { s with lights := l.advanceCandidate (l.indication sample.toNat) }
  else s

def execConversionComplete (sample : BitVec 10) (s : State) : Host.Outcome State Fault Refusal :=
  .next (conversionComplete s sample)

/-- FLASH_HALF_PERIOD_EXPIRY (R176); a stopped timer does not expire (log entry 3). -/
def flashHalfPeriodExpiry (s : State) : State :=
  match s.lights.flashTimer with
  | some t =>
    let s := s.reach t
    let l :=
      { s.lights with
        phaseOn := !s.lights.phaseOn
        flashTimer := some (s.now + s.lights.halfPeriod * millisecond) }
    { s with lights := l.recompute }
  | none => s

def execFlashHalfPeriodExpiry (s : State) : Host.Outcome State Fault Refusal := .next (flashHalfPeriodExpiry s)

/-- FLASH_CHANGE (R176): the light controller takes the change at the head of those the queue has handed on, when it is
a FLASH change. -/
def flashChange (s : State) : State :=
  match s.queue.handed with
  | .flash active :: rest =>
    { s with queue := { s.queue with handed := rest }, lights := s.lights.takeFlash s.now active }
  | _ => s

def execFlashChange (s : State) : Host.Outcome State Fault Refusal := .next (flashChange s)

/-- SAFETY_CHANGE (R178), likewise. -/
def safetyChange (s : State) : State :=
  match s.queue.handed with
  | .safety active :: rest =>
    { s with queue := { s.queue with handed := rest }, lights := s.lights.takeSafety active }
  | _ => s

def execSafetyChange (s : State) : Host.Outcome State Fault Refusal := .next (safetyChange s)

end Sys2Proof.Machine
end

