-- ==== Sys2Proof/Machine/Script.lean ====
section
/-!
DEFINITION. The script unit (02_cue_scripts_and_bank_switching.md): the banks, the shadow claim, the switch and its
validation, the firing of cues, and the commands that belong to it.
-/
namespace Sys2Proof.Machine

/-! ## Banks (R18) -/

def BankId.other : BankId → BankId
  | .bank0 => .bank1
  | .bank1 => .bank0

def ScriptUnit.bank (u : ScriptUnit) : BankId → Bank
  | .bank0 => u.bank0
  | .bank1 => u.bank1

def ScriptUnit.activeBank (u : ScriptUnit) : Bank := u.bank u.active

def ScriptUnit.shadowBank (u : ScriptUnit) : Bank := u.bank u.active.other

/-- The shadow bank becomes `b`. -/
def ScriptUnit.setShadow (u : ScriptUnit) (b : Bank) : ScriptUnit :=
  match u.active with
  | .bank0 => { u with bank1 := b }
  | .bank1 => { u with bank0 := b }

/-- The route counter is on the open route: the active bank holds no valid script (R1). -/
def State.openRoute (s : State) : Bool := s.script.activeBank.loopLength = 0

/-- The first cue, from index `i` on, whose position is greater than `q`, or the cue count (R34). -/
def seekFrom (b : Bank) (q : Nat) : Nat → Nat → Nat
  | 0, i => i
  | left + 1, i =>
    match b.slots[i]? with
    | some slot => if i < b.cueCount ∧ slot.position ≤ q then seekFrom b q left (i + 1) else i
    | none => i

/-- The cue pointer for distance `q`: every index before it lies at or before `q` (R34). -/
def Bank.seek (b : Bank) (q : Nat) : Nat := seekFrom b q b.cueCount 0

/-! ## The shadow claim (R22 to R24) -/

/-- The port number of a claimant or detail: 0 NONE, 1 ROUTE, 2 CREW, 3 FARE. -/
def portNumber : Option Port → Nat
  | none => 0
  | some .route => 1
  | some .crew => 2
  | some .fare => 3

/-- The claim ends if port `p` holds it (R24). -/
def State.endClaim (s : State) (p : Port) : State :=
  if s.script.claimant = some p then { s with script := { s.script with claimant := none } } else s

/-- CLAIM_SHADOW (R22). -/
def claimShadowRequest (p : Port) (s : State) (_a : Args) : State :=
  match s.script.claimant with
  | none => { s with script := { s.script with claimant := some p } }.answer p .ok 0
  | some q => s.answer p .held (word (portNumber (some q)))

def execClaimShadow (p : Port) (s : State) : Host.Outcome State Fault Refusal :=
  .next (s.taking p .claimShadow (claimShadowRequest p s))

/-- RELEASE_SHADOW (R23). -/
def releaseShadowRequest (p : Port) (s : State) (_a : Args) : State :=
  if s.script.claimant = some p then
    { s with script := { s.script with claimant := none } }.answer p .ok 0
  else s.answer p .notHolder (word (portNumber s.script.claimant))

def execReleaseShadow (p : Port) (s : State) : Host.Outcome State Fault Refusal :=
  .next (s.taking p .releaseShadow (releaseShadowRequest p s))

/-! ## Validation (R26, R27) -/

/-- Shadow cue `q` fails, `before` being the position of the cue before it (R27). -/
def CueSlot.fails (q : CueSlot) (loopLength : Nat) (before : Option Nat) : Bool :=
  loopLength ≤ q.position
    || (match before with
        | some x => q.position < x
        | none => false)
    || (match q.kind with
        | .illegal => true
        | .commentary => q.languages = 0 || 1024 ≤ q.group
        | .quiet => q.languages = 0
        | .announce =>
          q.languages = 0 || 1024 ≤ q.group || q.expiryDistance = 0 || (q.cls = .standard && q.safety)
        | .scene => false
        | .mark => false)

/-- The index of the first failing cue of those from index `i` on, in index order (R27). -/
def firstFailing (loopLength : Nat) : List CueSlot → Option Nat → Nat → Option Nat
  | [], _, _ => none
  | q :: rest, before, i =>
    if q.fails loopLength before then some i else firstFailing loopLength rest (some q.position) (i + 1)

/-- The detail of a failed validation: 256 for the header or switch point, else the first failing cue's index; `none`
when the script is valid (R26, R27). -/
def validate (b : Bank) (position loopLength : Nat) : Option Nat :=
  if b.loopLength < 100 ∨ b.cueCount = 0 ∨ loopLength ≤ position then some 256
  else firstFailing b.loopLength (b.slots.toList.take b.cueCount) none 0

/-! ## Requesting and cancelling a switch (R25, R28, R30) -/

/-- The pending switch record of a valid SWITCH, and whether its point is late (R28). -/
def switchRecord (r : RouteCounter) (delta position : Nat) : PendingSwitch × Bool :=
  let lap := (r.lap + delta) % 16
  if delta = 0 ∧ position ≤ r.distance then (⟨(lap + 1) % 16, position, 1⟩, true) else (⟨lap, position, 0⟩, false)

/-- SWITCH, judged in the order of R25. -/
def switchRequest (p : Port) (s : State) (a : Args) : State :=
  if s.script.claimant ≠ some p then s.answer p .notHolder (word (portNumber s.script.claimant))
  else if s.script.pendingSwitch.isSome then s.answer p .locked 0
  else
    let point := switchArgs a
    match validate s.script.shadowBank point.2 s.route.loopLength with
    | some detail => s.answer p .scriptInvalid (word detail)
    | none =>
      let record := switchRecord s.route point.1 point.2
      let s : State := { s with script := { s.script with pendingSwitch := some record.1 } }
      (if record.2 then s.raise .switchLate else s).answer p .ok 0

def execSwitch (p : Port) (s : State) : Host.Outcome State Fault Refusal :=
  .next (s.taking p .switch (switchRequest p s))

/-- CANCEL_SWITCH (R30). -/
def cancelSwitchRequest (p : Port) (s : State) (_a : Args) : State :=
  if s.script.claimant ≠ some p then s.answer p .notHolder (word (portNumber s.script.claimant))
  else if s.script.pendingSwitch.isNone then s.answer p .noSuchEntry 0
  else { s with script := { s.script with pendingSwitch := none } }.answer p .ok 0

def execCancelSwitch (p : Port) (s : State) : Host.Outcome State Fault Refusal :=
  .next (s.taking p .cancelSwitch (cancelSwitchRequest p s))

/-! ## Firing (R35 to R42) -/

/-- A fired MARK cue (R42). -/
def State.fireMark (s : State) (mark : Nat) : State :=
  { s with script :=
      { s.script with markNumber := mark, markCount := (s.script.markCount + 1) % 256 } }.raise .mark

/-- A cue fires and is handed to the block that owns its kind; `trip` is the trip distance stated with the offer (R37 to
R42). An illegal kind fires nothing: validation keeps it out of an active bank (R27). -/
def State.fireCue (s : State) (q : CueSlot) (trip : Nat) : State :=
  match q.kind with
  | .commentary => if s.reader.catalogue = .ready then s.takeCommentaryCue q.group q.languages else s.cueDropped
  | .quiet => s.takeQuietCue q.languages
  | .announce =>
    if (q.needsFix = true ∧ s.route.stale = true) ∨ s.reader.catalogue ≠ .ready then s.cueDropped
    else s.takeAnnounceCue q trip
  | .scene => s.applyScene q.scene
  | .mark => s.fireMark q.mark
  | .illegal => s

/-- Every cue from the pointer onward whose position is not greater than `q` fires, in index order, and the pointer
moves past it (R35). The fuel is the number of cues left. -/
def fireThrough : Nat → State → Nat → Nat → State
  | 0, s, _, _ => s
  | left + 1, s, q, trip =>
    let b := s.script.activeBank
    match b.slots[s.script.pointer]? with
    | some slot =>
      if s.script.pointer < b.cueCount ∧ slot.position ≤ q then
        let s : State := { s with script := { s.script with pointer := s.script.pointer + 1 } }
        fireThrough left (s.fireCue slot trip) q trip
      else s
    | none => s

/-- The cues an offer to `q` owes are fired (R35). -/
def State.fireUpTo (s : State) (q trip : Nat) : State := fireThrough s.script.activeBank.cueCount s q trip

/-- The cue pointer is set for distance `q`, firing nothing (R34). -/
def State.seekTo (s : State) (q : Nat) : State :=
  { s with script := { s.script with pointer := s.script.activeBank.seek q } }

end Sys2Proof.Machine
end

