-- ==== Sys2Proof/Machine/Tables.lean ====
section
/-!
DEFINITION. The nine tables (R188 to R191, and Tables in 10_record_and_register_layouts.md): their lengths, what each
word reads, who may write it and with which values, and what an accepted write does.
-/
namespace Sys2Proof.Machine

/-! ## Words built from fields -/

/-- The low `len` bits of `v`, placed with their lowest bit at bit `lo`. -/
def place (v lo len : Nat) : Nat := v % 2 ^ len * 2 ^ lo

/-- A flag placed at bit `lo`. -/
def placeBit (b : Bool) (lo : Nat) : Nat := if b then 2 ^ lo else 0

/-- The upper half of a 32-bit quantity. -/
def upperHalf (n : Nat) : Word := word (n / 65536)

/-- The lower half of a 32-bit quantity. -/
def lowerHalf (n : Nat) : Word := word n

/-- The word a table read shows where the manual gives none (log entry 5). -/
def State.unstated (s : State) : Word := Config.unstatedWord s.freeReads

/-! ## Encodings of fields -/

def AnnClass.code : AnnClass → Nat
  | .standard => 0
  | .express => 1
  | .live => 2

def Source.code : Source → Nat
  | .cue => 0
  | .crew => 1
  | .route => 2

def EndOutcome.code : EndOutcome → Nat
  | .none => 0
  | .played => 1
  | .expired => 2
  | .unheard => 3
  | .cancelled => 4

def StationState.code : StationState → Nat
  | .absent => 0
  | .joining => 1
  | .present => 2
  | .lost => 3

def AssignedBy.code : AssignedBy → Nat
  | .none => 0
  | .fare => 1
  | .seat => 2

def PlayState.code : PlayState → Nat
  | .quiet => 0
  | .commentary => 1
  | .hold => 2
  | .announce => 3
  | .live => 4

def ItemClass.code : ItemClass → Nat
  | .none => 0
  | .commentary => 1
  | .standard => 2
  | .express => 3
  | .live => 4

def Playhead.code : Playhead → Nat
  | .none => 0
  | .chain _ => 1
  | .clip _ => 2
  | .mic _ _ => 3

def Ambient.code : Ambient → Nat
  | .day => 0
  | .dusk => 1
  | .night => 2

def ZoneMode.code : ZoneMode → Nat
  | .scaled => 0
  | .exempt => 1
  | .flash => 2
  | .safety => 3

def ObState.code : ObState → Nat
  | .opened => 1
  | .playing => 2
  | .cut => 3
  | .heard => 4
  | .unheard => 5
  | .dropped => 6

/-- The kind of a stack's top context: 0 none, 1 commentary, 2 announcement. -/
def topContextCode : List Context → Nat
  | [] => 0
  | .commentary _ :: _ => 1
  | .announcement _ _ :: _ => 2

def Table.number : Table → Nat
  | .settings => 0
  | .shadow => 1
  | .active => 2
  | .seats => 3
  | .channels => 4
  | .queue => 5
  | .scenes => 6
  | .counters => 7
  | .capture => 8

/-- The table a TBL_SELECT word names (R188, R190). -/
def tableOf (w : Word) : Option Table :=
  match w.toNat with
  | 0 => some .settings
  | 1 => some .shadow
  | 2 => some .active
  | 3 => some .seats
  | 4 => some .channels
  | 5 => some .queue
  | 6 => some .scenes
  | 7 => some .counters
  | 8 => some .capture
  | _ => none

/-- The table's length in words. -/
def Table.length : Table → Nat
  | .settings => 24
  | .shadow => 1028
  | .active => 1028
  | .seats => 398
  | .channels => 85
  | .queue => 322
  | .scenes => 98
  | .counters => 24
  | .capture => 3

/-! ## What the words read -/

/-- A SETTINGS word (R191, R65). -/
def settingWord (s : State) (n : Nat) : Word :=
  match n with
  | 0 => word s.route.ratio
  | 1 => word s.route.jumpWindow
  | 2 => word s.route.fixTimeout
  | 3 => word s.engine.holdAdvance
  | 4 => word s.engine.resumeWindow
  | 5 => word s.queue.liveLimit
  | 6 => word s.engine.chainLimit
  | 7 => word s.reader.divider
  | 8 => word s.roster.trims[0]
  | 9 => word s.roster.trims[1]
  | 10 => word s.roster.trims[2]
  | 11 => word s.roster.trims[3]
  | 12 => word s.lights.halfPeriod
  | 13 => word s.lights.flashMask.toNat
  | 14 => word s.lights.dayThreshold
  | 15 => word s.lights.nightThreshold
  | 16 => word s.lights.dayScale
  | 17 => word s.lights.duskScale
  | 18 => word s.lights.nightScale
  | 19 => word (s.port .route).timeout
  | 20 => word (s.port .crew).timeout
  | 21 => word (s.port .fare).timeout
  | 22 => word s.reader.storeSize
  | 23 => word s.reader.groupCount
  | _ => 0

/-- A word of a bank (Bank words); the reserved header word reads 0 (R202). -/
def Bank.tableWord (b : Bank) (n : Nat) : Word :=
  match n with
  | 0 => word b.loopLength
  | 1 => word b.cueCount
  | 2 => b.tag
  | 3 => 0
  | _ =>
    match b.slots[(n - 4) / 4]? with
    | some q => q.word ((n - 4) % 4)
    | none => 0

/-- The first word of a seat (Seat words). -/
def Seat.statusWord (x : Seat) (i : SeatNo) : Word :=
  word (place x.station.code 0 2 + placeBit x.plugged 2 + placeBit x.fault 3 + placeBit (!isUpper i) 4
    + place (match x.language with
        | some c => c.val
        | none => 15) 5 4
    + place x.assignedBy.code 9 2 + placeBit x.lock 11 + placeBit x.tag.isSome 12)

/-- One of a seat's four words (Seat words, R164). -/
def Seat.tableWord (x : Seat) (i : SeatNo) (k : Nat) : Word :=
  match k with
  | 0 => x.statusWord i
  | 1 => word (place x.volume 0 4 + place x.effective 4 4)
  | 2 => upperHalf (x.tag.getD 0).toNat
  | _ => lowerHalf (x.tag.getD 0).toNat

/-- A SEATS word (R164). -/
def Roster.tableWord (r : Roster) (n : Nat) : Word :=
  if n = 0 then word (place r.changeCount 0 8)
  else if h : (n - 1) / 4 < 96 then r.seats[(n - 1) / 4].tableWord ⟨(n - 1) / 4, h⟩ ((n - 1) % 4)
  else if h : n - 385 < 12 then word r.census[n - 385]
  else if n = 397 then word ((List.finRange 12).foldl (fun w c => w + placeBit r.listened[c] c.val) 0)
  else 0

/-- The id of the entry the channel is playing, 0 when it plays none (log entry 5). -/
def Playhead.entryId : Playhead → Nat
  | .clip cl => cl.id
  | .mic id _ => id
  | .none => 0
  | .chain _ => 0

/-- One of a channel's seven words (Channel words, R96). `free` stands where the playhead's content has no such part
(log entry 5). -/
def ChannelRec.tableWord (ch : ChannelRec) (free : Word) (k : Nat) : Word :=
  match k with
  | 0 => ch.label0 ++ ch.label1
  | 1 =>
    word (placeBit ch.enabled 15 + place ch.playState.code 12 3 + place ch.itemClass.code 9 3
      + place ch.playhead.code 7 2 + placeBit ch.listened 6 + place ch.stack.length 4 2
      + place (topContextCode ch.stack) 2 2)
  | 2 =>
    match ch.playhead with
    | .chain x => word x.group
    | .clip x => word x.group
    | .none => free
    | .mic _ _ => free
  | 3 =>
    match ch.playhead with
    | .chain x => word x.offset
    | .clip x => word x.offset
    | .none => free
    | .mic _ _ => free
  | 4 =>
    word (place ch.playhead.entryId 8 8
      + place (match ch.offer with
        | some o => o.id
        | none => 0) 0 8)
  | 5 =>
    word (place ch.hold 8 8
      + place (match ch.playhead with
        | .chain x => x.walked
        | .clip _ => free.toNat
        | .none => free.toNat
        | .mic _ _ => free.toNat) 0 7)
  | _ =>
    match ch.playhead with
    | .chain x => word x.start
    | .clip _ => free
    | .none => free
    | .mic _ _ => free

/-- The deck word: the deck channel, FFh for OFF, and the deck volume. -/
def ChannelEngine.deckWord (e : ChannelEngine) : Word :=
  word (place (match e.deckChannel with
    | some c => c.val
    | none => 0xFF) 8 8 + place e.deckVolume 0 4)

/-- A CHANNELS word (R96). -/
def channelsWord (s : State) (n : Nat) : Word :=
  if h : n / 7 < 12 then (s.channel ⟨n / 7, h⟩).tableWord s.unstated (n % 7)
  else if n = 84 then s.engine.deckWord
  else 0

/-- The seconds an entry's expiry shows: the time left on its timer, rounded up, or those requested while it is WAITING
(R127). -/
def Entry.secondsShown (e : Entry) (now requested : Nat) : Nat :=
  match e.timer with
  | some t => (t - now + (second - 1)) / second
  | none => if e.launched then 0 else requested

/-- The obligation word of a channel. -/
def obligationWord (o : Option Obligation) : Word :=
  match o with
  | some o =>
    word (place o.state.code 0 3 + placeBit (o.listenedAtStart == some true) 3 + placeBit (o.cause == some .loss) 4)
  | none => 0

/-- One of an entry's twenty words (Queue words, R127); `free` stands for an absent launch trip or expiry (log
entry 5). -/
def Entry.tableWord (e : Entry) (now : Nat) (free : Word) (k : Nat) : Word :=
  match k with
  | 0 =>
    word (place e.id 8 8 + place e.cls.code 6 2 + place e.source.code 4 2 + placeBit e.flash 3 + placeBit e.safety 2
      + placeBit e.launched 1 + placeBit e.expiryTaken.isSome 0)
  | 1 =>
    match e.content with
    | .clip g => word g
    | .mic => 0xFFFF#16
  | 2 =>
    word (placeBit e.launchTrip.isSome 15 + placeBit (e.expiry != .none) 14
      + placeBit (match e.expiry with
        | .seconds _ => true
        | .trip _ => false
        | .none => false) 13)
  | 3 =>
    match e.launchTrip with
    | some t => upperHalf t
    | none => free
  | 4 =>
    match e.launchTrip with
    | some t => lowerHalf t
    | none => free
  | 5 =>
    match e.expiry with
    | .trip t => upperHalf t
    | .seconds _ => free
    | .none => free
  | 6 =>
    match e.expiry with
    | .trip t => lowerHalf t
    | .seconds n => word (e.secondsShown now n)
    | .none => free
  | _ => obligationWord ((channelOf (k - 7)).bind e.obligation)

/-- A QUEUE word (R127); blocks past the last entry read 0. -/
def queueWord (s : State) (n : Nat) : Word :=
  if n = 0 then
    word (place (match s.liveEntry with
      | some e => e.id
      | none => 0) 8 8 + place s.queue.entries.length 0 5)
  else if n = 321 then word (place s.queue.endCount 0 8)
  else
    match s.queue.entries[(n - 1) / 20]? with
    | some e => e.tableWord s.now s.unstated ((n - 1) % 20)
    | none => 0

/-- Two bytes as a word, the first in bits 15–8. -/
def pairWord (hi lo : Nat) : Word := word (place hi 8 8 + place lo 0 8)

/-- One of a scene's five words (Scene words). -/
def SceneRec.tableWord (r : SceneRec) (k : Nat) : Word :=
  match k with
  | 0 => pairWord r.levels[0] r.levels[1]
  | 1 => pairWord r.levels[2] r.levels[3]
  | 2 => pairWord r.levels[4] r.levels[5]
  | 3 => pairWord r.levels[6] r.levels[7]
  | _ => pairWord r.rate r.exempt.toNat

/-- One of a zone's two words. -/
def Zone.tableWord (z : Zone) (k : Nat) : Word :=
  match k with
  | 0 => pairWord z.current z.target
  | _ => word (place z.applied 8 8 + place z.mode.code 0 2)

/-- A SCENES word (R181). -/
def Lights.tableWord (l : Lights) (n : Nat) : Word :=
  if h : n / 5 < 16 then l.scenes[n / 5].tableWord (n % 5)
  else if n = 80 then
    match l.sceneInForce with
    | some k => word k.val
    | none => 0xFFFF#16
  else if n = 81 then pairWord l.rate l.exempt.toNat
  else if h : (n - 82) / 2 < 8 then l.zones[(n - 82) / 2].tableWord ((n - 82) % 2)
  else 0

/-- A COUNTERS word (R200). -/
def Counters.tableWord (k : Counters) (n : Nat) : Word :=
  if h : n < 12 then word k.underruns[n]
  else if h : n - 12 < 6 then word k.framing[n - 12]
  else
    match n with
    | 18 => word k.chainErrors
    | 19 => word k.cueDrops
    | 20 => word k.contextLosses
    | 21 => word k.expired
    | 22 => word k.unheard
    | 23 => word k.cancelled
    | _ => 0

/-- A CAPTURE word (Capture words, R124); all read 0 while the record is empty. -/
def captureWord (c : Option Capture) (n : Nat) : Word :=
  match c with
  | none => 0
  | some x =>
    match n with
    | 0 => word (placeBit true 15 + place x.source.code 13 2 + place x.id 0 8)
    | 1 => word (place x.lap 12 4 + place x.group 0 10)
    | 2 => word x.distance
    | _ => 0

/-- Word `n` of table `t`, for `n` within the table. -/
def tableWord (s : State) (t : Table) (n : Nat) : Word :=
  match t with
  | .settings => settingWord s n
  | .shadow => s.script.shadowBank.tableWord n
  | .active => s.script.activeBank.tableWord n
  | .seats => s.roster.tableWord n
  | .channels => channelsWord s n
  | .queue => queueWord s n
  | .scenes => s.lights.tableWord n
  | .counters => s.ports.counters.tableWord n
  | .capture => captureWord s.queue.capture n

/-! ## Who may write, and which values (R189 to R191) -/

/-- The owner of a SETTINGS word; words 22 and 23 have none (R191). -/
def settingOwner (n : Nat) : Option Port :=
  if n ≤ 2 then some .route
  else if n ≤ 18 then some .crew
  else if n = 19 then some .route
  else if n = 20 then some .crew
  else if n = 21 then some .fare
  else none

/-- Port `p` has the right to write word `n` of table `t` (R190, R191). -/
def mayWrite (s : State) (p : Port) (t : Table) (n : Nat) : Bool :=
  match t with
  | .settings => settingOwner n = some p
  | .shadow => s.script.claimant = some p
  | .channels => p = .crew && n < 84 && n % 7 = 0
  | .scenes => p = .crew && n < 80
  | .active => false
  | .seats => false
  | .queue => false
  | .counters => false
  | .capture => false

/-- The owning block refuses the write for its state: the SHADOW table during a pending switch (R21). -/
def tableLocked (s : State) (t : Table) : Bool :=
  match t with
  | .shadow => s.script.pendingSwitch.isSome
  | .settings => false
  | .active => false
  | .seats => false
  | .channels => false
  | .queue => false
  | .scenes => false
  | .counters => false
  | .capture => false

/-- A silence timeout is 0 or 1 to 60 s. -/
def timeoutOk (v : Nat) : Bool := v ≤ 60

/-- The values of a SETTINGS word (R191). -/
def settingValueOk (n v : Nat) : Bool :=
  match n with
  | 0 => [1, 2, 4, 8, 16, 32, 64, 128, 256].contains v
  | 1 => v ≤ 1000
  | 2 => 1 ≤ v && v ≤ 120
  | 3 => v ≤ 255
  | 4 => v ≤ 120
  | 5 => 10 ≤ v && v ≤ 300
  | 6 => 1 ≤ v && v ≤ 64
  | 7 => [1, 2, 4, 8].contains v
  | 8 => v ≤ 3
  | 9 => v ≤ 3
  | 10 => v ≤ 3
  | 11 => v ≤ 3
  | 12 => 100 ≤ v && v ≤ 1000 && v % 50 = 0
  | 13 => true
  | 14 => v ≤ 1023
  | 15 => v ≤ 1023
  | 16 => v ≤ 256
  | 17 => v ≤ 256
  | 18 => v ≤ 256
  | 19 => timeoutOk v
  | 20 => timeoutOk v
  | 21 => timeoutOk v
  | _ => false

/-- A label character lies from 20h to 7Eh (R68). -/
def labelChar (b : Byte) : Bool := 0x20#8 ≤ b && b ≤ 0x7E#8

/-- The word's value lies within the values of the field or setting it holds (R189, R203). -/
def valueOk (t : Table) (n : Nat) (w : Word) : Bool :=
  match t with
  | .settings => settingValueOk n w.toNat
  | .shadow => n != 1 || w.toNat ≤ 256
  | .channels => labelChar (w.extractLsb' 8 8) && labelChar (w.extractLsb' 0 8)
  | .scenes => true
  | .active => true
  | .seats => true
  | .queue => true
  | .counters => true
  | .capture => true

/-! ## What an accepted write does -/

/-- The silence timeout of port `p` is written: 0 stops the timer, any other value restarts it (R194). -/
def State.writeTimeout (s : State) (p : Port) (v : Nat) : State :=
  s.modPort p fun ps =>
    { ps with timeout := v, silenceTimer := if v = 0 then none else some (s.now + v * second) }

/-- The trim of band `b` is written: every effective volume is recomputed (R162, R163). -/
def State.writeTrim (s : State) (b : Fin 4) (v : Nat) : State :=
  { s with roster := { s.roster with trims := s.roster.trims.set b v }.recomputeVolumes }

/-- A lighting setting is written, and every pending level recomputed from the settings (R167, R175, R177). -/
def State.writeLights (s : State) (f : Lights → Lights) : State := { s with lights := (f s.lights).recompute }

/-- An accepted SETTINGS write, applied by the setting's block (R191 and the rules of each block). -/
def writeSetting (s : State) (n : Nat) (w : Word) : State :=
  let v := w.toNat
  match n with
  | 0 => { s with route := { s.route with ratio := v, prescaler := 0 } }
  | 1 => { s with route := { s.route with jumpWindow := v } }
  | 2 => { s with route := { s.route with fixTimeout := v } }
  | 3 => { s with engine := { s.engine with holdAdvance := v } }
  | 4 => { s with engine := { s.engine with resumeWindow := v } }
  | 5 => { s with queue := { s.queue with liveLimit := v } }
  | 6 => { s with engine := { s.engine with chainLimit := v } }
  | 7 => { s with reader := { s.reader with divider := v } }
  | 8 => s.writeTrim 0 v
  | 9 => s.writeTrim 1 v
  | 10 => s.writeTrim 2 v
  | 11 => s.writeTrim 3 v
  | 12 => { s with lights := { s.lights with halfPeriod := v } }
  | 13 => s.writeLights fun l => { l with flashMask := w.extractLsb' 0 8 }
  | 14 => { s with lights := { s.lights with dayThreshold := v } }
  | 15 => { s with lights := { s.lights with nightThreshold := v } }
  | 16 => s.writeLights fun l => { l with dayScale := v }
  | 17 => s.writeLights fun l => { l with duskScale := v }
  | 18 => s.writeLights fun l => { l with nightScale := v }
  | 19 => s.writeTimeout .route v
  | 20 => s.writeTimeout .crew v
  | 21 => s.writeTimeout .fare v
  | _ => s

/-- A word of a bank is stored; the reserved header word discards what is written (R21, R202). -/
def Bank.store (b : Bank) (n : Nat) (w : Word) : Bank :=
  match n with
  | 0 => { b with loopLength := w.toNat }
  | 1 => { b with cueCount := w.toNat }
  | 2 => { b with tag := w }
  | 3 => b
  | _ =>
    if h : (n - 4) / 4 < 256 then
      { b with slots := vmod b.slots ⟨(n - 4) / 4, h⟩ fun q => q.setWord ((n - 4) % 4) w }
    else b

/-- A scene record's word is stored (R168). -/
def SceneRec.store (r : SceneRec) (k : Nat) (w : Word) : SceneRec :=
  let hi := field w 8 8
  let lo := field w 0 8
  match k with
  | 0 => { r with levels := (r.levels.set 0 hi).set 1 lo }
  | 1 => { r with levels := (r.levels.set 2 hi).set 3 lo }
  | 2 => { r with levels := (r.levels.set 4 hi).set 5 lo }
  | 3 => { r with levels := (r.levels.set 6 hi).set 7 lo }
  | _ => { r with rate := hi, exempt := w.extractLsb' 0 8 }

/-- A scene word is written: the record changes and nothing more (R168). -/
def writeSceneWord (s : State) (n : Nat) (w : Word) : State :=
  if h : n / 5 < 16 then
    { s with lights := { s.lights with scenes := vmod s.lights.scenes ⟨n / 5, h⟩ fun r => r.store (n % 5) w } }
  else s

/-- A label is written (R68). -/
def writeLabel (s : State) (n : Nat) (w : Word) : State :=
  if h : n / 7 < 12 then
    s.modChannel ⟨n / 7, h⟩ fun ch => { ch with label0 := w.extractLsb' 8 8, label1 := w.extractLsb' 0 8 }
  else s

/-- An accepted write of word `n` of table `t`. -/
def writeTable (s : State) (t : Table) (n : Nat) (w : Word) : State :=
  match t with
  | .settings => writeSetting s n w
  | .shadow => { s with script := s.script.setShadow (s.script.shadowBank.store n w) }
  | .channels => writeLabel s n w
  | .scenes => writeSceneWord s n w
  | .active => s
  | .seats => s
  | .queue => s
  | .counters => s
  | .capture => s

/-- The judgement of a table write, in the order of R189. -/
def judgeWrite (s : State) (p : Port) (t : Table) (n : Nat) (w : Word) : Access :=
  if t.length ≤ n then .range
  else if mayWrite s p t n = false then .noRight
  else if tableLocked s t then .locked
  else if valueOk t n w = false then .value
  else .ok

end Sys2Proof.Machine
end

