-- ==== Sys2Proof/Machine/Flags.lean ====
section
/-!
DEFINITION. What the part shows: the words of the register window (Register window,
10_record_and_register_layouts.md) and the levels of its output pins.
-/
namespace Sys2Proof.Machine

/-! ## Encodings of register fields -/

def ResultCode.code : ResultCode → Nat
  | .ok => 0
  | .badCode => 1
  | .noRight => 2
  | .badArgument => 3
  | .queueFull => 4
  | .held => 5
  | .notHolder => 6
  | .locked => 7
  | .scriptInvalid => 8
  | .liveActive => 9
  | .noLive => 10
  | .noSuchEntry => 11
  | .notReady => 12

def Access.code : Access → Nat
  | .ok => 0
  | .noRight => 1
  | .range => 2
  | .value => 3
  | .locked => 4

def Catalogue.code : Catalogue → Nat
  | .loading => 0
  | .ready => 1
  | .bad => 2

def BadReason.code : BadReason → Nat
  | .none => 0
  | .signature => 1
  | .version => 2
  | .size => 3
  | .groups => 4

/-- The divider field of STORE_STATUS: 0 to 3 for 1, 2, 4, 8. -/
def dividerCode (d : Nat) : Nat :=
  if d = 1 then 0 else if d = 2 then 1 else if d = 4 then 2 else 3

def BankId.number : BankId → Nat
  | .bank0 => 0
  | .bank1 => 1

/-! ## Status words -/

/-- PORT_STATUS of port `p` (R183); a port's own state always reads ACTIVE there (R195). -/
def portStatusWord (s : State) (p : Port) : Word :=
  let silentBit (q : Port) (lo : Nat) : Nat := placeBit (q != p && (s.port q).silent) lo
  word (place (s.port p).access.code 0 3 + placeBit (s.port p).portRestarted 4 + placeBit (s.port p).deviceRestarted 5
    + silentBit .route 8 + silentBit .crew 9 + silentBit .fare 10)

/-- REQ_RESULT: BUSY while a request is in progress, with the result last answered (R184). -/
def PortState.resultWord (ps : PortState) : Word := word (placeBit ps.busy.isSome 15 + place ps.result.code 0 4)

/-- POSITION. -/
def positionWord (s : State) : Word := word s.route.distance

/-- ROUTE_STATUS (R17). -/
def routeStatusWord (s : State) : Word :=
  word (placeBit s.openRoute 15 + placeBit s.route.stale 14 + place s.route.band.val 12 2 + place s.route.lap 8 4
    + place s.route.speed 0 8)

/-- BANK_STATUS (R43). -/
def bankStatusWord (s : State) : Word :=
  word (place s.script.active.number 0 1 + place (portNumber s.script.claimant) 1 2
    + placeBit s.script.pendingSwitch.isSome 3
    + match s.script.pendingSwitch with
      | some w => place w.lap 4 4 + place w.lateLaps 8 4
      | none => 0)

/-- SWITCH_POSITION (R43). -/
def switchPositionWord (s : State) : Word :=
  match s.script.pendingSwitch with
  | some w => word w.position
  | none => 0

/-- LAST_MARK (R42). -/
def lastMarkWord (s : State) : Word := pairWord s.script.markCount s.script.markNumber

/-- LAST_ANNOUNCE (R121, R127): the end count modulo 32. -/
def lastAnnounceWord (s : State) : Word :=
  word (place s.queue.lastOutcome.code 13 3 + place s.queue.lastEndedId 5 8 + place s.queue.endCount 0 5)

/-- STORE_STATUS (R65). -/
def storeStatusWord (s : State) : Word :=
  word (place s.reader.catalogue.code 0 2 + place s.reader.badReason.code 2 3 + place (dividerCode s.reader.divider) 5 2
    + placeBit s.reader.inFlight.isSome 7)

/-- LIGHT_STATUS (R181). -/
def lightStatusWord (s : State) : Word :=
  word (place s.lights.sample 0 10 + placeBit s.lights.run 10 + place s.lights.ambient.code 11 2
    + placeBit s.lights.flashActive 13 + placeBit s.lights.safetyActive 14 + placeBit s.lights.phaseOn 15)

/-- The four route words as they stand (R17). -/
def takeSnapshot (s : State) : Snapshot where
  position := positionWord s
  status := routeStatusWord s
  tripHigh := upperHalf s.route.trip
  tripLow := lowerHalf s.route.trip

/-- The four route words that a read word of port `p` takes: the open transaction's snapshot, else the words as they
stand (R17). -/
def routeWords (s : State) (p : Port) : Snapshot := (s.port p).snapshot.getD (takeSnapshot s)

/-- What TBL_DATA shows at the cursor: the word, or 0 at or past the table's end (R189). -/
def cursorWord (s : State) (p : Port) : Word :=
  if (s.port p).pointer < (s.port p).table.length then tableWord s (s.port p).table (s.port p).pointer else 0

/-- The value of register `n` at port `p` as a word read now shows it; a number that is not defined reads 0 (R183). -/
def readRegister (s : State) (p : Port) (n : Nat) : Word :=
  let ps := s.port p
  match n with
  | 0 => 0x6121#16
  | 1 => portStatusWord s p
  | 2 => ps.notices
  | 3 => ps.mask
  | 4 => word ps.reqCode.toNat
  | 5 => ps.args.a0
  | 6 => ps.args.a1
  | 7 => ps.args.a2
  | 8 => ps.args.a3
  | 9 => ps.resultWord
  | 10 => ps.detail
  | 11 => word ps.table.number
  | 12 => word ps.pointer
  | 13 => cursorWord s p
  | 16 => (routeWords s p).position
  | 17 => (routeWords s p).status
  | 18 => (routeWords s p).tripHigh
  | 19 => (routeWords s p).tripLow
  | 20 => bankStatusWord s
  | 21 => switchPositionWord s
  | 22 => lastMarkWord s
  | 23 => lastAnnounceWord s
  | 24 => storeStatusWord s
  | 25 => lightStatusWord s
  | _ => 0

/-! ## Output pins -/

/-- ATN# of port `p` is driven low: a notice is set and unmasked, and neither RESET# nor the port's PRST# is held (R193,
R197, R198). -/
def attention (s : State) (p : Port) : Bool :=
  !s.resetHeld && !(s.port p).prstHeld && (s.port p).notices &&& ~~~(s.port p).mask != 0

/-- The register number after `n` in a transaction: the next one, wrapping from 63 to 0, but TBL_DATA stays (R183). -/
def nextRegister (n : BitVec 6) : BitVec 6 := if n = 13 then n else n + 1

/-- The register of word `k`, counted from 0, of a transaction whose word 0 is register `n`'s (R183). -/
def wordRegister (n : BitVec 6) : Nat → BitVec 6
  | 0 => n
  | k + 1 => nextRegister (wordRegister n k)

/-- What a port's SDO pin shows (R182). -/
inductive Sdo where
  | floating
  | low
  | word (w : Word)
deriving DecidableEq, Repr

/-- What SDO of port `p` shows: with `k = none` during the address byte; with `k = some i` during word `i` of the
transaction, counted from its first word or, once TBL_DATA has been read, from the next TBL_DATA word, when the port
begins to shift that word out in state `s`. It floats while CS# is high and while RESET# or PRST# is held (R182, R183,
R197, R198). -/
def sdoPin (s : State) (p : Port) (k : Option Nat) : Sdo :=
  if s.resetHeld || (s.port p).prstHeld then .floating
  else
    match (s.port p).transaction with
    | .idle => .floating
    | .unaddressed => .low
    | .writing _ => .low
    | .reading n =>
      match k with
      | none => .low
      | some i => .word (readRegister s p (wordRegister n i).toNat)

/-- What the clip-store pins do (R44, R55, R64). -/
inductive StorePins where
  | floating
  | idle
  | reading (address count : Nat)
deriving DecidableEq, Repr

/-- The clip-store pins: they float while RESET# is held, and carry the read sequence of the read in flight. -/
def storePins (s : State) : StorePins :=
  if s.resetHeld then .floating
  else
    match s.reader.inFlight with
    | some r => .reading r.address r.count
    | none => .idle

/-- What the part sends on the data pair of segment `g`, with the driver enable SBg_DE asserted: the POLL until its last
byte has been sent; `none` while SBg_DE is released, and while RESET# is held (R129, R132, R147). -/
def segmentSends (s : State) (g : SegmentNo) : Option (Vector Byte 7) :=
  if s.resetHeld then none
  else
    match (s.segment g).poll with
    | some w => if s.now < w.opens then some w.frame else none
    | none => none

/-- The driver enable SBg_DE is asserted (R129, R147). -/
def driverEnable (s : State) (g : SegmentNo) : Bool := (segmentSends s g).isSome

/-- The samples a slot carries in the present period, given the microphone's samples in it (R74, R130). -/
def Output.samplesWith (o : Output) (mic : List (BitVec 16)) : List Int :=
  match o with
  | .silence => List.replicate 512 0
  | .samples xs => xs
  | .microphone => mic.map micSample

/-- Slot `c` of the seat audio lines (R130). -/
def slotSamples (s : State) (mic : List (BitVec 16)) (c : ChannelNo) : List Int := (s.channel c).output.samplesWith mic

/-- The deck output (R95). -/
def deckSamples (s : State) (mic : List (BitVec 16)) : List Int :=
  match s.engine.deckOutChannel with
  | some c => (slotSamples s mic c).map (deckSample s.engine.deckOutVolume)
  | none => List.replicate 512 0

/-- The level pin LZ`z` drives (R166). -/
def zonePin (s : State) (z : Fin 8) : Nat := s.lights.zones[z].applied

end Sys2Proof.Machine
end

