-- ==== Sys2Proof/Machine/Ports.lean ====
section
/-!
DEFINITION. The port interface (09_master_ports.md): transactions and their words, port resets, silence, the shared
counters, the request engine and the table cursor, with the commands that belong to it.
-/
namespace Sys2Proof.Machine

/-! ## Transactions and their words (R182, R183) -/

/-- A transaction edge of port `p` is taken, unless RESET# or the port's PRST# is held (R197, R198). -/
def State.linked (s : State) (p : Port) (f : State) : State := if s.resetHeld || (s.port p).prstHeld then s else f

/-- Port `p`'s write transaction has its next word for register `n`, and the port takes words. -/
def State.writesTo (s : State) (p : Port) (n : BitVec 6) : Bool :=
  !s.resetHeld && !(s.port p).prstHeld && (s.port p).transaction = .writing n

/-- A word written to register `n` of port `p`: `f` does what it does, and the transaction moves on to the next register
(R183). Where the transaction has not reached that register there is no such word (log entry 6). -/
def State.written (s : State) (p : Port) (n : BitVec 6) (f : State → State) : State :=
  if s.writesTo p n then
    (f s).modPort p fun ps => { ps with transaction := .writing (nextRegister n) }
  else s

/-! ## Register words -/

/-- NOTICES: bits written as 1 are cleared (R192). -/
def noticesWrite (p : Port) (w : Word) (s : State) : State :=
  s.modPort p fun ps => { ps with notices := ps.notices &&& ~~~w }

def execNoticesWrite (p : Port) (w : Word) (s : State) : Host.Outcome State Fault Refusal :=
  .next (s.written p 2 (noticesWrite p w))

/-- NOTICE_MASK (R193). -/
def noticeMaskWrite (p : Port) (w : Word) (s : State) : State := s.modPort p fun ps => { ps with mask := w }

def execNoticeMaskWrite (p : Port) (w : Word) (s : State) : Host.Outcome State Fault Refusal :=
  .next (s.written p 3 (noticeMaskWrite p w))

/-- PORT_STATUS: a 1 clears PORT_RESTARTED or DEVICE_RESTARTED (R183). -/
def portStatusWrite (p : Port) (w : Word) (s : State) : State :=
  s.modPort p fun ps =>
    { ps with
      portRestarted := ps.portRestarted && !w.getLsbD 4
      deviceRestarted := ps.deviceRestarted && !w.getLsbD 5 }

def execPortStatusWrite (p : Port) (w : Word) (s : State) : Host.Outcome State Fault Refusal :=
  .next (s.written p 1 (portStatusWrite p w))

/-- TBL_SELECT (R188). -/
def tblSelectWrite (p : Port) (w : Word) (s : State) : State :=
  s.modPort p fun ps =>
    match tableOf w with
    | some t => { ps with table := t, pointer := 0, access := .ok }
    | none => { ps with access := .range }

def execTblSelectWrite (p : Port) (w : Word) (s : State) : Host.Outcome State Fault Refusal :=
  .next (s.written p 11 (tblSelectWrite p w))

/-- The pointer moves on by one and stops at 65,535 (R188). -/
def nextPointer (n : Nat) : Nat := min (n + 1) 65535

/-- TBL_DATA written: judged, applied if it passes, and the pointer moves on (R188, R189). -/
def tblDataWrite (p : Port) (w : Word) (s : State) : State :=
  let t := (s.port p).table
  let n := (s.port p).pointer
  let r := judgeWrite s p t n w
  (if r = .ok then writeTable s t n w else s).modPort p fun ps =>
    { ps with access := r, pointer := nextPointer n }

def execTblDataWrite (p : Port) (w : Word) (s : State) : Host.Outcome State Fault Refusal :=
  .next (s.written p 13 (tblDataWrite p w))

/-- TBL_DATA read in a read transaction, which stays there: the access result is set, and the pointer moves on when the
word is completed (R182, R183, R188, R189). The word itself is what sdoPin shows in the state before. -/
def tblDataRead (s : State) (p : Port) (completed : Bool) : State :=
  let s := s.modPort p fun ps =>
    { ps with
      transaction := .reading 13
      access := if ps.pointer < ps.table.length then .ok else .range
      pointer := if completed then nextPointer ps.pointer else ps.pointer }
  { s with freeReads := s.freeReads + 1 }

/-- Every read transaction that goes on reaches TBL_DATA (R183); outside one there is no word to read (log entry 6). -/
def execTblDataRead (p : Port) (completed : Bool) (s : State) : Host.Outcome State Fault Refusal :=
  .next (s.linked p
    (match (s.port p).transaction with
      | .reading _ => tblDataRead s p completed
      | .idle => s
      | .unaddressed => s
      | .writing _ => s))

/-- The first word of a read transaction that starts at POSITION: the snapshot is taken (R17). -/
def positionRead (s : State) (p : Port) : State :=
  let shot := takeSnapshot s
  s.modPort p fun ps => { ps with snapshot := some shot }

/-- A transaction that did not start at POSITION, or has taken its snapshot, has no such word (log entry 6). -/
def execPositionRead (p : Port) (s : State) : Host.Outcome State Fault Refusal :=
  .next (s.linked p
    (if (s.port p).transaction = .reading 16 ∧ (s.port p).snapshot = none then positionRead s p else s))

/-! ## Silence (R194, R195) -/

/-- The silence timer restarts with the timeout in force, unless the timeout is 0. -/
def PortState.restartTimer (ps : PortState) (now : Nat) : PortState :=
  { ps with silenceTimer := if ps.timeout = 0 then none else some (now + ps.timeout * second) }

/-- What the address byte makes of a transaction: bit 7 is 1 for a read, bit 6 is ignored, and bits 5 to 0 are the
register number (R182). -/
def addressed : Option Byte → Transaction
  | none => .unaddressed
  | some b => if b.getLsbD 7 then .reading (b.extractLsb' 0 6) else .writing (b.extractLsb' 0 6)

/-- CS# falls: the transaction begins, the port is ACTIVE, its timer restarts, and a return from SILENT is raised at the
other ports (R182, R194, R195). -/
def transactionStart (s : State) (p : Port) (address : Option Byte) : State :=
  let was := (s.port p).silent
  let s := s.modPort p fun ps =>
    { ps with silent := false, transaction := addressed address, snapshot := none }.restartTimer s.now
  if was then s.raiseOthers p .portSilent else s

def execTransactionStart (o : Opening) (s : State) : Host.Outcome State Fault Refusal :=
  .next (s.linked o.port (transactionStart s o.port o.address))

/-- CS# rises: the transaction ends (R182). -/
def transactionEnd (s : State) (p : Port) : State :=
  s.modPort p fun ps => { ps with transaction := .idle, snapshot := none }

def execTransactionEnd (p : Port) (s : State) : Host.Outcome State Fault Refusal :=
  .next (s.linked p (transactionEnd s p))

/-- Steps 3 and 4 of R196, and steps 1 and 2 of R194: the claim the port holds ends, and the LIVE entry if the port is
CREW. -/
def State.dropHoldings (s : State) (p : Port) : State :=
  let s := s.endClaim p
  match p with
  | .crew => s.endLive
  | .route => s
  | .fare => s

/-- SILENCE_TIMER_EXPIRY (R194); a stopped timer does not expire (log entry 3). -/
def silenceTimerExpiry (s : State) (p : Port) : State :=
  match (s.port p).silenceTimer with
  | some t =>
    let s := (s.reach t).modPort p fun ps => { ps with silent := true, silenceTimer := none }
    (s.dropHoldings p).raiseOthers p .portSilent
  | none => s

def execSilenceTimerExpiry (p : Port) (s : State) : Host.Outcome State Fault Refusal :=
  .next (silenceTimerExpiry s p)

/-! ## Port reset (R196, R197) -/

/-- Steps 1 and 2 of R196: the request in hand is withdrawn and the port's registers take their port reset values. -/
def PortState.clear (ps : PortState) : PortState :=
  { ps with
    busy := none
    notices := 0
    mask := 0xFFFF#16
    reqCode := 0
    args := ⟨0, 0, 0, 0⟩
    result := .ok
    detail := 0
    table := .settings
    pointer := 0
    access := .ok }

/-- Steps 1 to 4 of R196. -/
def State.clearPort (s : State) (p : Port) : State := (s.modPort p PortState.clear).dropHoldings p

/-- Steps 5 and 6 of R196. -/
def State.restartPort (s : State) (p : Port) : State :=
  s.modPort p fun ps => { if ps.silent then ps else ps.restartTimer s.now with portRestarted := true }

/-- PORT_RESET carried out: the six steps, then OK with REQ_DONE (R196). -/
def State.portReset (s : State) (p : Port) : State := ((s.clearPort p).restartPort p).answer p .ok 0

/-- PRST# falls: the port is held in reset (R197). MODEL'S CHOICE (log entry 38): a transaction in progress has ended,
also where CS# is still low at the release. -/
def prstAssert (s : State) (p : Port) : State :=
  if (s.port p).prstHeld then s
  else
    (s.modPort p fun ps =>
      { ps with prstHeld := true, silenceTimer := none, transaction := .idle, snapshot := none }
    ).clearPort p

def execPrstAssert (p : Port) (s : State) : Host.Outcome State Fault Refusal := .next (prstAssert s p)

/-- PRST# is released (R197). -/
def prstRelease (s : State) (p : Port) : State :=
  if (s.port p).prstHeld then
    (s.modPort p fun ps => { ps with prstHeld := false }).running fun s => s.restartPort p
  else s

def execPrstRelease (p : Port) (s : State) : Host.Outcome State Fault Refusal := .next (prstRelease s p)

/-! ## Shared counters (R200) -/

/-- CLEAR_COUNTERS carried out (R200). -/
def State.clearCounters (s : State) (p : Port) : State := (s.modCounters fun _ => Counters.reset).answer p .ok 0

/-! ## Request engine (R184, R185, R187) -/

/-- A request the port may issue is taken at GO: the port interface carries out its own two at once (R187), and hands
any other to its block with the argument words as they stand. -/
def State.handOn (s : State) (p : Port) (k : RequestKind) : State :=
  match k with
  | .clearCounters => s.clearCounters p
  | .portReset => s.portReset p
  | _ => s.modPort p fun ps => { ps with busy := some ⟨k, ps.args⟩ }

/-- A GO taken while the engine is IDLE: BAD_CODE, NO_RIGHT, or the request taken (R184). -/
def State.go (s : State) (p : Port) : State :=
  match requestOfCode (s.port p).reqCode with
  | none => s.answer p .badCode 0
  | some k => if hasRight p k then s.handOn p k else s.answer p .noRight 0

/-- A word written to REQ_CODE: the code is stored, and GO is bit 15 (R184, R185). -/
def writeReqCode (p : Port) (w : Word) (s : State) : State :=
  let s := s.modPort p fun ps => { ps with reqCode := w.extractLsb' 0 6 }
  if w.getLsbD 15 then
    if (s.port p).busy.isSome then s.raiseAt p .reqOverrun else s.go p
  else s

/-- PORT_RESET (R187, R196): the port's GO with the code of PORT_RESET, 18, which the port interface takes at once; a GO
while the engine is BUSY is an overrun (log entry 11). -/
def execPortReset (p : Port) (s : State) : Host.Outcome State Fault Refusal :=
  .next (s.written p 4 (writeReqCode p 0x8012#16))

/-- CLEAR_COUNTERS (R187, R200): the port's GO with the code of CLEAR_COUNTERS, 16, likewise (log entry 11). -/
def execClearCounters (p : Port) (s : State) : Host.Outcome State Fault Refusal :=
  .next (s.written p 4 (writeReqCode p 0x8010#16))

/-! ## Register writes -/

/-- A word written to an argument register. -/
def writeArgs (p : Port) (f : Args → Args) (s : State) : State := s.modPort p fun ps => { ps with args := f ps.args }

/-- A word written to register `n`; one that shows shared state, is read only or is not defined ignores it (R183). -/
def writeRegister (p : Port) (n : BitVec 6) (w : Word) (s : State) : State :=
  match n.toNat with
  | 1 => portStatusWrite p w s
  | 2 => noticesWrite p w s
  | 3 => noticeMaskWrite p w s
  | 4 => writeReqCode p w s
  | 5 => writeArgs p (fun a => { a with a0 := w }) s
  | 6 => writeArgs p (fun a => { a with a1 := w }) s
  | 7 => writeArgs p (fun a => { a with a2 := w }) s
  | 8 => writeArgs p (fun a => { a with a3 := w }) s
  | 11 => tblSelectWrite p w s
  | 12 => s.modPort p fun ps => { ps with pointer := w.toNat }
  | 13 => tblDataWrite p w s
  | _ => s

def execRegisterWrite (p : Port) (reg : BitVec 6) (w : Word) (s : State) : Host.Outcome State Fault Refusal :=
  .next (s.written p reg (writeRegister p reg w))

end Sys2Proof.Machine
end

