-- ==== Sys2Proof/Machine/Reset.lean ====
section
/-!
DEFINITION. The device reset (R198): its beginning and its release.
-/
namespace Sys2Proof.Machine

/-- The port interface under a device reset: every port at its reset values, its PRST# pin as it stands. -/
def PortInterface.underReset (q : PortInterface) : PortInterface :=
  { PortInterface.reset with
    windows :=
      ⟨{ PortState.reset with prstHeld := q.windows.route.prstHeld },
       { PortState.reset with prstHeld := q.windows.crew.prstHeld },
       { PortState.reset with prstHeld := q.windows.fare.prstHeld }⟩ }

/-- DEVICE_RESET (R198): every block returns to its reset values, and RESET# is held. The commands that wait and the
levels the masters drive on the PRST# pins are not the part's own. MODEL'S CHOICE (log entry 38): a transaction in
progress has ended, also where its CS# is still low at the release. -/
def deviceReset (s : State) : State :=
  { State.held with pending := s.pending, ports := s.ports.underReset }

def execDeviceReset (s : State) : Host.Outcome State Fault Refusal := .next (deviceReset s)

/-- RESET_RELEASE (R198): the header read (R45), the first poll cycle of every segment (R147) and the first conversion
(R172) start, and the clocks run from now. With RESET# not held there is nothing to release (log entry 3). -/
def resetRelease (s : State) : State :=
  if s.resetHeld then
    { s with
      resetHeld := false
      reader := { s.reader with inFlight := some Read.header }
      bus := { s.bus with segments := vmap (fun x => { x with inCycle := true }) s.bus.segments }
      lights := { s.lights with run := true } }
  else s

def execResetRelease (s : State) : Host.Outcome State Fault Refusal := .next (resetRelease s)

end Sys2Proof.Machine
end

