-- ==== Sys2Proof/Machine/Route.lean ====
section
/-!
DEFINITION. The route counter (01_route_position.md) with the switch execution its offers may cause
(02_cue_scripts_and_bank_switching.md, R32, R33): odometer advances, fixes, the speed window, the fix timer, and the
commands that belong to it.
-/
namespace Sys2Proof.Machine

/-! ## Moving one metre (R5, R10) -/

/-- One metre forward on the loop in force: the next metre, or 0 with a lap more from the last one (R2, R5). -/
def RouteCounter.forward (r : RouteCounter) : RouteCounter :=
  if r.distance + 1 < r.loopLength then { r with distance := r.distance + 1 }
  else { r with distance := 0, lap := (r.lap + 1) % 16 }

/-- The step from this distance wraps to 0. -/
def RouteCounter.wraps (r : RouteCounter) : Bool := r.loopLength ≤ r.distance + 1

/-- The distance counter is brought within a new loop length (R16). -/
def RouteCounter.rebase (r : RouteCounter) (loopLength : Nat) : RouteCounter :=
  if r.distance < loopLength then { r with loopLength := loopLength }
  else { r with loopLength := loopLength, distance := 0, lap := (r.lap + 1) % 16 }

/-! ## Switch execution (R32, R33) -/

/-- A pending switch whose target lap and position are those of the offer is due (R32). -/
def State.switchDue (s : State) : Bool :=
  match s.script.pendingSwitch with
  | some w => w.lap = s.route.lap && w.position = s.route.distance
  | none => false

/-- Steps 1 to 3 and 5 of R33: the roles exchange, the record goes, the route counter re-bases and SWITCH_DONE is
raised. The pointer is set by the caller (step 4). -/
def State.executeSwitch (s : State) : State :=
  let script := { s.script with active := s.script.active.other, pendingSwitch := none }
  { s with script := script, route := s.route.rebase script.activeBank.loopLength }.raise .switchDone

/-- A wrap that brings the lap counter to the lap after a pending switch's target lap counts it late (R29). -/
def State.judgeLate (s : State) : State :=
  match s.script.pendingSwitch with
  | some w =>
    if s.route.lap = (w.lap + 1) % 16 then
      { s with script :=
          { s.script with pendingSwitch := some { w with lateLaps := min (w.lateLaps + 1) 15 } } }.raise .switchLate
    else s
  | none => s

/-- The script unit takes the offer of the position the route has just moved to: the cues it owes fire, a wrap is judged
for lateness, and the answer says whether a switch has become due (R14, R29, R32, R35, R36). -/
def State.offer (s : State) (wrapped : Bool) (trip : Nat) : State :=
  if wrapped then
    (State.fireUpTo { s with script := { s.script with pointer := 0 } } 0 trip).judgeLate
  else s.fireUpTo s.route.distance trip

/-- One metre forward, offered to the script unit (R5, R10). -/
def State.walkStep (s : State) (trip : Nat) : State :=
  { s with route := s.route.forward }.offer s.route.wraps trip

/-! ## Odometer (R3, R5) -/

/-- An odometer advance: one metre, the trip distance and the speed window, the queue's judgement of the new trip
distance (R109, R110), then the offer, and a switch that has become due. -/
def State.odometerAdvance (s : State) : State :=
  let r := s.route.forward
  let wrapped := s.route.wraps
  let s : State := { s with route := { r with trip := tripAdd r.trip 1, windowCount := r.windowCount + 1 } }
  let s := s.judgeTrip
  let s := s.offer wrapped s.route.trip
  if s.switchDue then
    let s := s.executeSwitch
    s.seekTo s.route.distance
  else s

/-- ODOMETER_PULSE (R3). -/
def odometerPulse (s : State) : State :=
  if s.route.prescaler + 1 < s.route.ratio then
    { s with route := { s.route with prescaler := s.route.prescaler + 1 } }
  else { s with route := { s.route with prescaler := 0 } }.odometerAdvance

def execOdometerPulse (s : State) : Host.Outcome State Fault Refusal := .next (s.running odometerPulse)

/-! ## FIX (R9 to R13) -/

/-- `n` metres walked without firing (R11, R14). -/
def walkSilent : Nat → RouteCounter → RouteCounter
  | 0, r => r
  | n + 1, r => walkSilent n r.forward

/-- The walk of a catch-up: `left` metres still to walk, `trip` the trip distance at the position the walk stands at. A
switch that becomes due part way executes, and the rest is walked without firing and ends with a seek (R10, R11). -/
def catchUp : Nat → State → Nat → State
  | 0, s, _ => s
  | left + 1, s, trip =>
    let trip := tripAdd trip 1
    let s := s.walkStep trip
    if s.switchDue then
      let s := s.executeSwitch
      let s : State := { s with route := walkSilent left s.route }
      s.seekTo s.route.distance
    else catchUp left s trip

/-- The forward distance from the distance counter to `q` (R9, step 3). -/
def RouteCounter.forwardTo (r : RouteCounter) (q : Nat) : Nat :=
  if r.distance ≤ q then q - r.distance else r.loopLength - r.distance + q

/-- Steps 1 and 2 of an accepted FIX: the prescaler clears, the fix timer restarts, STALE clears, raising ROUTE_STALE
if it was set (R9, R15). -/
def State.freshFix (s : State) : State :=
  let stale := s.route.stale
  let s : State :=
    { s with route :=
        { s.route with prescaler := 0, fixTimer := some (s.now + s.route.fixTimeout * second), stale := false } }
  if stale then s.raise .routeStale else s

/-- Step 4 of an accepted FIX: no move, a catch-up or a re-seek (R10, R12). -/
def State.moveTo (s : State) (q : Nat) : State :=
  let d := s.route.forwardTo q
  if d = 0 then s
  else if d ≤ s.route.jumpWindow then
    let before := s.route.trip
    let s : State := { s with route := { s.route with trip := tripAdd before d } }
    catchUp d s.judgeTrip before
  else
    let s : State := { s with route := { s.route with distance := q } }
    s.seekTo q

/-- Step 5: the lap, if one was given (R13). -/
def State.applyLap (s : State) (lap : Option Nat) : State :=
  match lap with
  | some l => { s with route := { s.route with lap := l } }
  | none => s

/-- FIX (R9). -/
def fixRequest (s : State) (a : Args) : State :=
  match fixLap a.a1 with
  | none => s.answer .route .badArgument 0
  | some lap =>
    if s.route.loopLength ≤ a.a0.toNat then s.answer .route .badArgument 0
    else ((s.freshFix.moveTo a.a0.toNat).applyLap lap).answer .route .ok 0

def execFix (s : State) : Host.Outcome State Fault Refusal := .next (s.taking .route .fix (fixRequest s))

/-! ## Fix timer (R15) -/

/-- FIX_TIMER_EXPIRY: a stopped timer does not expire (log entry 3). -/
def fixTimerExpiry (s : State) : State :=
  match s.route.fixTimer with
  | some t =>
    let s := s.reach t
    { s with route := { s.route with fixTimer := none, stale := true } }.raise .routeStale
  | none => s

def execFixTimerExpiry (s : State) : Host.Outcome State Fault Refusal := .next (fixTimerExpiry s)

/-! ## Speed (R7, R8) -/

/-- The band of a speed (R8). -/
def bandOf (speed : Nat) : Fin 4 :=
  if speed ≤ 3 then 0 else if speed ≤ 7 then 1 else if speed ≤ 11 then 2 else 3

/-- SPEED_WINDOW_END (R7, R8): the speed becomes the window's count, limited to 255, a new window opens, and a changed
band goes to the roster. -/
def speedWindowEnd (s : State) : State :=
  let s := s.reach s.route.windowEnd
  let speed := min s.route.windowCount 255
  let changed := bandOf speed ≠ s.route.band
  let s : State :=
    { s with route :=
        { s.route with
          speed := speed
          band := bandOf speed
          windowCount := 0
          windowEnd := s.route.windowEnd + speedWindow } }
  if changed then s.takeBand (bandOf speed) else s

def execSpeedWindowEnd (s : State) : Host.Outcome State Fault Refusal := .next (s.running speedWindowEnd)

end Sys2Proof.Machine
end

