-- ==== Sys2Proof/Machine/Store.lean ====
section
/-!
DEFINITION. The store reader (03_clip_store_and_store_reader.md): the start of a read with its arbitration, and the
completions.
-/
namespace Sys2Proof.Machine

/-- A pending directory request's group (R57). -/
def ChannelRec.directoryRequest (ch : ChannelRec) : Option Nat :=
  match ch.fetch with
  | .pending g => some g
  | .inFlight _ => none
  | .none => none

/-- The highest level at which the channel has a request: 1 directory fetch, 2 starving, 3 announcement, 4 other (R59).
-/
def ChannelRec.level (ch : ChannelRec) : Option Nat :=
  if ch.directoryRequest.isSome then some 1
  else if ch.audioRequest.isSome then
    if ch.starving then some 2
    else if ch.playState = .announce then some 3
    else some 4
  else none

/-- The channels in round-robin order: from the one after the last served, wrapping from 11 to 0 (R60). -/
def roundRobin (lastServed : ChannelNo) : List ChannelNo :=
  (List.finRange 12).map fun k => lastServed + 1 + k

/-- The channel whose request the store reader starts next: the highest level, by round-robin within it (R59, R60). -/
def nextServed (channels : Vector ChannelRec 12) (lastServed : ChannelNo) : Option ChannelNo :=
  [1, 2, 3, 4].findSome? fun level =>
    (roundRobin lastServed).find? fun c => channels[c].level = some level

/-- The byte address of group `g`'s record: 64 bytes in block 1 + g div 8 (R44). -/
def recordAddress (g : Nat) : Nat := (1 + g / 8) * 512 + g % 8 * 64

/-- The start of a directory fetch of group `g` for channel `c` (R55, R57). -/
def State.startDirectory (s : State) (c : ChannelNo) (g : Nat) : State :=
  ({ s with reader :=
      { s.reader with
        lastServed := c
        inFlight := some ⟨.directory c, recordAddress g, 64, s.now + directoryReadTime * s.reader.divider⟩ } }).modChannel
    c fun ch => { ch with fetch := .inFlight g }

/-- The start of an audio read of channel `c`'s block `tag` into buffer `n`, which is granted to the store reader with
the tag (R55, R61); `start` is the entry's start block. -/
def State.startAudio (s : State) (c : ChannelNo) (n : BufName) (tag : Tag) (start : Nat) : State :=
  ({ s with reader :=
      { s.reader with
        lastServed := c
        inFlight := some ⟨.audio c n tag, (start + tag.offset) * 512, 512, s.now + audioReadTime * s.reader.divider⟩ }
    }).modChannel c fun ch => ch.setBuf n { ch.buf n with owner := .reader, tag := some tag }

/-- The read the arbiter has chosen for channel `c` is started: its directory request before its audio request (R59). -/
def State.startFor (s : State) (c : ChannelNo) : State :=
  let ch := s.channel c
  match ch.directoryRequest with
  | some g => s.startDirectory c g
  | none =>
    match ch.audioRequest, ch.playhead.entry with
    | some (n, tag), some e => s.startAudio c n tag e.start
    | _, _ => s

/-- READ_START (R59): the store must be free and a request pending, and a BAD catalogue starts no reads (R46). -/
def readStart (s : State) : State :=
  if s.reader.inFlight.isSome ∨ s.reader.catalogue = .bad then s
  else
    match nextServed s.engine.channels s.reader.lastServed with
    | some c => s.startFor c
    | none => s

def execReadStart (s : State) : Host.Outcome State Fault Refusal := .next (s.running readStart)

/-- The read in flight completes: the store is free (R63), and the clock stands at its end at least. -/
def State.readDone (s : State) (r : Read) : State :=
  { s.reach r.ends with reader := { s.reader with inFlight := none } }

/-- HEADER_READ_COMPLETE (R45, R46): READY with the header values, or BAD with the reason; CATALOGUE is raised. With no
header read in flight there is nothing to complete (log entry 3). -/
def headerReadComplete (s : State) (bytes : Vector Byte 64) : State :=
  match s.reader.inFlight with
  | some r =>
    match r.kind with
    | .header =>
      let s := s.readDone r
      let (reason, size, groups) := judgeHeader bytes
      { s with reader :=
          { s.reader with
            catalogue := if reason = BadReason.none then .ready else .bad
            badReason := reason
            storeSize := size
            groupCount := groups } }.raise .catalogue
    | .directory _ => s
    | .audio _ _ _ => s
  | none => s

def execHeaderReadComplete (bytes : Vector Byte 64) (s : State) : Host.Outcome State Fault Refusal :=
  .next (headerReadComplete s bytes)

/-- DIRECTORY_FETCH_COMPLETE (R63): the record goes to the requesting channel, unless its request was abandoned (R57).
-/
def directoryFetchComplete (s : State) (bytes : Vector Byte 64) : State :=
  match s.reader.inFlight with
  | some r =>
    match r.kind with
    | .directory c =>
      let s := s.readDone r
      match (s.channel c).fetch with
      | .inFlight _ => s.takeRecord c (parseRecord bytes c)
      | .pending _ => s
      | .none => s
    | .header => s
    | .audio _ _ _ => s
  | none => s

def execDirectoryFetchComplete (bytes : Vector Byte 64) (s : State) : Host.Outcome State Fault Refusal :=
  .next (directoryFetchComplete s bytes)

/-- AUDIO_READ_COMPLETE (R62): the target buffer is filled, and its tag judged against the channel as it stands. -/
def audioReadComplete (s : State) (bytes : Vector Byte 512) : State :=
  match s.reader.inFlight with
  | some r =>
    match r.kind with
    | .audio c n tag => (s.readDone r).modChannel c fun ch => ch.audioArrived n tag bytes.toList
    | .header => s
    | .directory _ => s
  | none => s

def execAudioReadComplete (bytes : Vector Byte 512) (s : State) : Host.Outcome State Fault Refusal :=
  .next (audioReadComplete s bytes)

end Sys2Proof.Machine
end

