-- ==== Sys2Proof/Machine/Dispatch.lean ====
section
/-!
DEFINITION. The commands and their meanings: one arm for each constructor of Instr.
-/
namespace Sys2Proof.Machine

/-- The effect of a command on everything but the queue of waiting commands. -/
def exec (i : Instr) (s : State) : Host.Outcome State Fault Refusal :=
  match i with
  | .deviceReset => Sys2Proof.Machine.execDeviceReset s
  | .resetRelease => Sys2Proof.Machine.execResetRelease s
  | .odometerPulse => Sys2Proof.Machine.execOdometerPulse s
  | .fix => Sys2Proof.Machine.execFix s
  | .fixTimerExpiry => Sys2Proof.Machine.execFixTimerExpiry s
  | .speedWindowEnd => Sys2Proof.Machine.execSpeedWindowEnd s
  | .claimShadow p => Sys2Proof.Machine.execClaimShadow p s
  | .releaseShadow p => Sys2Proof.Machine.execReleaseShadow p s
  | .switch p => Sys2Proof.Machine.execSwitch p s
  | .cancelSwitch p => Sys2Proof.Machine.execCancelSwitch p s
  | .readStart => Sys2Proof.Machine.execReadStart s
  | .headerReadComplete bytes => Sys2Proof.Machine.execHeaderReadComplete bytes s
  | .directoryFetchComplete bytes => Sys2Proof.Machine.execDirectoryFetchComplete bytes s
  | .audioReadComplete bytes => Sys2Proof.Machine.execAudioReadComplete bytes s
  | .blockBoundary => Sys2Proof.Machine.execBlockBoundary s
  | .announce p => Sys2Proof.Machine.execAnnounce p s
  | .cancel => Sys2Proof.Machine.execCancel s
  | .liveOn => Sys2Proof.Machine.execLiveOn s
  | .liveOff => Sys2Proof.Machine.execLiveOff s
  | .entryExpiryTimer id => Sys2Proof.Machine.execEntryExpiryTimer id s
  | .liveTimerExpiry => Sys2Proof.Machine.execLiveTimerExpiry s
  | .scene => Sys2Proof.Machine.execScene s
  | .deck => Sys2Proof.Machine.execDeck s
  | .channelEnable => Sys2Proof.Machine.execChannelEnable s
  | .assign => Sys2Proof.Machine.execAssign s
  | .release => Sys2Proof.Machine.execRelease s
  | .releaseAll => Sys2Proof.Machine.execReleaseAll s
  | .clearCounters p => Sys2Proof.Machine.execClearCounters p s
  | .clearCapture p => Sys2Proof.Machine.execClearCapture p s
  | .portReset p => Sys2Proof.Machine.execPortReset p s
  | .prstAssert p => Sys2Proof.Machine.execPrstAssert p s
  | .prstRelease p => Sys2Proof.Machine.execPrstRelease p s
  | .transactionStart p => Sys2Proof.Machine.execTransactionStart p s
  | .transactionEnd p => Sys2Proof.Machine.execTransactionEnd p s
  | .silenceTimerExpiry p => Sys2Proof.Machine.execSilenceTimerExpiry p s
  | .registerWrite p reg w => Sys2Proof.Machine.execRegisterWrite p reg w s
  | .noticesWrite p w => Sys2Proof.Machine.execNoticesWrite p w s
  | .noticeMaskWrite p w => Sys2Proof.Machine.execNoticeMaskWrite p w s
  | .portStatusWrite p w => Sys2Proof.Machine.execPortStatusWrite p w s
  | .tblSelectWrite p w => Sys2Proof.Machine.execTblSelectWrite p w s
  | .tblDataRead p completed => Sys2Proof.Machine.execTblDataRead p completed s
  | .tblDataWrite p w => Sys2Proof.Machine.execTblDataWrite p w s
  | .positionRead p => Sys2Proof.Machine.execPositionRead p s
  | .cycleStart g => Sys2Proof.Machine.execCycleStart g s
  | .poll g => Sys2Proof.Machine.execPoll g s
  | .reply g bytes => Sys2Proof.Machine.execReply g bytes s
  | .replyWindowExpiry g received => Sys2Proof.Machine.execReplyWindowExpiry g received s
  | .lockIndicatorExpiry seat => Sys2Proof.Machine.execLockIndicatorExpiry seat s
  | .pwmPeriodStart => Sys2Proof.Machine.execPwmPeriodStart s
  | .fadeStep => Sys2Proof.Machine.execFadeStep s
  | .conversionStart => Sys2Proof.Machine.execConversionStart s
  | .conversionComplete sample => Sys2Proof.Machine.execConversionComplete sample s
  | .flashHalfPeriodExpiry => Sys2Proof.Machine.execFlashHalfPeriodExpiry s
  | .flashChange => Sys2Proof.Machine.execFlashChange s
  | .safetyChange => Sys2Proof.Machine.execSafetyChange s

end Sys2Proof.Machine
end

