-- ==== Sys2Proof/Safety.lean ====
section
/-!
DEFINITION. What must hold of every state a run reaches, in the spec's own terms: one predicate for each invariant the
rules state. `Safe` joins them.
-/
namespace Sys2Proof

open Sys2Proof.Machine

namespace Safety

/-! ## Route and script (R1, R2, R18, R28, R33) -/

/-- The loop length in force for an active bank with this loop length (R1). -/
def inForce (loopLength : Nat) : Nat := if loopLength = 0 then 65535 else loopLength

/-- The distance counter lies within the loop length in force, which the active bank gives; the lap lies from 0 to 15;
a pending switch leaves a valid loop length in the shadow bank (R1, R2, R26, R28). -/
abbrev Route (s : State) : Prop :=
  s.route.distance < s.route.loopLength
    ∧ s.route.loopLength = inForce s.script.activeBank.loopLength
    ∧ s.script.activeBank.loopLength ≤ 65535
    ∧ s.script.shadowBank.loopLength ≤ 65535
    ∧ s.route.lap < 16
    ∧ (s.script.pendingSwitch.isSome → 100 ≤ s.script.shadowBank.loopLength)
    ∧ s.route.trip ≤ 4294967295

/-- The cue pointer indexes the first cue of the active bank beyond the distance counter (R34). -/
abbrev Pointer (s : State) : Prop := s.script.pointer = s.script.activeBank.seek s.route.distance

/-- The fix timer runs exactly while STALE is clear (R15). -/
abbrev Fix (s : State) : Prop := s.route.fixTimer.isSome = !s.route.stale

/-! ## Resume stacks (R69, R75, R87) -/

/-- A commentary context is the bottom one. -/
def commentaryAtBottom : List Context → Bool
  | [] => true
  | [_] => true
  | k :: rest => !k.isCommentary && commentaryAtBottom rest

/-- The play state, the item class and the playhead's content name one kind of item (R69, R75). -/
def itemsAgree (ch : ChannelRec) : Bool :=
  match ch.playState, ch.itemClass, ch.playhead with
  | .quiet, .none, .none => true
  | .commentary, .commentary, .chain _ => true
  | .hold, .commentary, .chain _ => true
  | .announce, .standard, .clip _ => true
  | .announce, .express, .clip _ => true
  | .live, .live, .mic _ _ => true
  | _, _, _ => false

/-- QUIET, COMMENTARY or HOLD. -/
def lowState : PlayState → Bool
  | .quiet => true
  | .commentary => true
  | .hold => true
  | .announce => false
  | .live => false

/-- A channel's resume stack holds at most two contexts, at most one of them commentary and that one at the bottom, and
is empty in QUIET, COMMENTARY and HOLD (R87). -/
abbrev Stack (ch : ChannelRec) : Prop :=
  ch.stack.length ≤ 2 ∧ commentaryAtBottom ch.stack = true ∧ (lowState ch.playState = true → ch.stack = [])

/-- Every channel's stack is lawful, and its play state, item class and playhead agree (R69, R75, R87). -/
abbrev Stacks (s : State) : Prop :=
  ∀ c : ChannelNo, Stack (s.channel c) ∧ itemsAgree (s.channel c) = true

/-- A disabled channel holds nothing (R66, R67). -/
abbrev Disabled (s : State) : Prop :=
  ∀ c : ChannelNo, (s.channel c).enabled = inSet s.roster.enabled c
    ∧ ((s.channel c).enabled = false →
        (s.channel c).playState = .quiet ∧ (s.channel c).stack = [] ∧ (s.channel c).action = .none
          ∧ (s.channel c).offer = none ∧ (s.channel c).fetch = .none)

/-! ## Queue (R97 to R104, R117, R120, R125, R126) -/

/-- Queue order: no entry stands after one of lower class (R99). -/
abbrev InOrder (entries : List Entry) : Prop := entries.Pairwise fun a b => b.cls.rank ≤ a.cls.rank

/-- At most sixteen entries, ids 1 to 255 with no two alike, in queue order, at most one with MIC content (R98, R99),
and each with one obligation a channel, in channel number order (R97, R100). -/
abbrev Queue (s : State) : Prop :=
  s.queue.entries.length ≤ 16
    ∧ (∀ e ∈ s.queue.entries, 1 ≤ e.id ∧ e.id ≤ 255)
    ∧ (s.queue.entries.map (·.id)).Nodup
    ∧ InOrder s.queue.entries
    ∧ (∀ e ∈ s.queue.entries, (e.content = .mic ↔ e.cls = .live))
    ∧ (s.queue.entries.filter fun e => e.content = .mic).length ≤ 1
    ∧ (∀ e ∈ s.queue.entries, (e.obligations.map fun o => o.channel.val).Pairwise (· < ·))

/-- Every launch and every distance expiry that the trip distance has reached is taken (R109, R110). -/
abbrev Judged (s : State) : Prop :=
  ∀ e ∈ s.queue.entries, e.launchDue s.route.trip = false ∧ e.expiryDue s.route.trip = false

/-- A LIVE entry is in the queue exactly while the live timer runs, and only while CREW is ACTIVE (R117). -/
abbrev Live (s : State) : Prop :=
  (s.queue.liveTimer.isSome ↔ s.liveEntry.isSome)
    ∧ (s.liveEntry.isSome → (s.port .crew).silent = false ∧ (s.port .crew).prstHeld = false)

/-- Every enabled channel's offer is the eligible entry (R78, R104). -/
abbrev Offers (s : State) : Prop :=
  ∀ c : ChannelNo, (s.channel c).enabled = true → (s.channel c).offer = eligible s.queue.entries c

/-- HOLD is the state of commentary with an offer, and a commentary with a STANDARD offer is in HOLD (R84). -/
abbrev Hold (s : State) : Prop :=
  ∀ c : ChannelNo,
    ((s.channel c).playState = .hold → (s.channel c).offer.isSome)
      ∧ ((s.channel c).playState = .commentary → ∀ o ∈ (s.channel c).offer, o.cls ≠ .standard)
      ∧ ((s.channel c).playState ≠ .hold → (s.channel c).hold = 0)

/-- The playhead's item is entry `e`'s, a clip or the microphone by its content, and still owes its obligation an end:
no END has been reported, and the queue has not stopped it (R79). -/
def owes (ph : Playhead) (e : Entry) : Bool :=
  match ph with
  | .clip cl => e.content != .mic && cl.id = e.id && !cl.reported
  | .mic i stopped => e.content = .mic && i = e.id && !stopped
  | .none => false
  | .chain _ => false

/-- A PLAYING obligation belongs to an enabled channel that is playing its entry, so that a channel has at most one
(R101). -/
abbrev Playing (s : State) : Prop :=
  ∀ e ∈ s.queue.entries, ∀ o ∈ e.obligations, o.state = .playing →
    (s.channel o.channel).enabled = true ∧ owes (s.channel o.channel).playhead e = true

/-- A CUT obligation is a clip's, since a channel in LIVE is not cut (R86), and belongs to an enabled channel whose
resume stack holds a context of its entry (R87, R119). -/
abbrev Cut (s : State) : Prop :=
  ∀ e ∈ s.queue.entries, ∀ o ∈ e.obligations, o.state = .cut →
    e.content ≠ .mic ∧ (s.channel o.channel).enabled = true
      ∧ (s.channel o.channel).stack.any (Context.isEntry e.id) = true

/-- The last value handed on for a signal that stood at `seen` when `handed` began. -/
def lastFlash (seen : Bool) : List LightChange → Bool
  | [] => seen
  | .flash b :: rest => lastFlash b rest
  | .safety _ :: rest => lastFlash seen rest

def lastSafety (seen : Bool) : List LightChange → Bool
  | [] => seen
  | .safety b :: rest => lastSafety b rest
  | .flash _ :: rest => lastSafety seen rest

/-- FLASH and SAFETY stand as the PLAYING obligations say, and the light controller will reach them by the changes
handed on to it (R125, R126, R176, R178). -/
abbrev Signals (s : State) : Prop :=
  s.queue.flash = flashDue s.queue.entries
    ∧ s.queue.safety = safetyDue s.queue.entries
    ∧ lastFlash s.lights.flashActive s.queue.handed = s.queue.flash
    ∧ lastSafety s.lights.safetyActive s.queue.handed = s.queue.safety

/-! ## Store reader (R46, R55, R61) -/

/-- The buffer an audio read fills is reader-owned. -/
def targetOwned (s : State) : ReadKind → Bool
  | .audio c n _ => ((s.channel c).buf n).owner = .reader
  | .header => true
  | .directory _ => true

/-- The buffer a read in flight is filling is reader-owned (R61), and header values stand only while READY (R45, R65).
-/
abbrev Reader (s : State) : Prop :=
  (∀ r ∈ s.reader.inFlight, targetOwned s r.kind = true)
    ∧ (if s.reader.catalogue = .ready then
        130 ≤ s.reader.storeSize ∧ s.reader.storeSize ≤ 32768 ∧ 1 ≤ s.reader.groupCount ∧ s.reader.groupCount ≤ 1024
      else s.reader.storeSize = 0 ∧ s.reader.groupCount = 0)

/-! ## Seats (R135, R142, R149, R151, R157, R158, R162) -/

/-- The roster holds each station's state and FAULT as the seat bus controller has them (R140, R149). -/
abbrev Mirror (s : State) : Prop :=
  ∀ i : SeatNo, (s.seat i).station = (s.station i).state ∧ (s.seat i).fault = (s.station i).fault

/-- Every census counts its listeners, LISTENED follows the census and the deck channel, and the channel engine holds
LISTENED as the roster does (R157, R158, R76, R159). -/
abbrev Census (s : State) : Prop :=
  (∀ c : ChannelNo, s.roster.census[c] = s.roster.count c
      ∧ s.roster.listened[c] = s.roster.isListened c
      ∧ (s.channel c).listened = s.roster.listened[c])
    ∧ s.roster.deck = s.engine.deckChannel

/-- A locked seat has a language the FARE port assigned (R151 to R154), volumes lie from 0 to 15, and the effective
volume is the volume with the wind trim (R155, R162). -/
abbrev Seats (s : State) : Prop :=
  s.roster.band = s.route.band
    ∧ ∀ i : SeatNo, ((s.seat i).lock = true → (s.seat i).language.isSome ∧ (s.seat i).assignedBy = .fare)
      ∧ ((s.seat i).assignedBy = .none ↔ (s.seat i).language = none)
      ∧ (s.seat i).volume ≤ 15
      ∧ (s.seat i).effective = effectiveVolume s.roster i (s.seat i).volume

/-- The miss count lies below what its state allows, and an ABSENT station has no FAULT (R135 to R137). -/
def stationLawful (x : Station) : Bool :=
  match x.state with
  | .absent => x.misses = 0 && !x.fault
  | .joining => x.misses = 0
  | .present => x.misses < 3
  | .lost => x.misses < 32

/-- Miss counts and cursors stay in their ranges, an ABSENT station has no FAULT, and a poll is in flight only within a
cycle (R131, R132, R135, R136). -/
abbrev Bus (s : State) : Prop :=
  (∀ g : SegmentNo, (s.segment g).cursor < 16 ∧ (s.segment g).cycleCount < 8
      ∧ ((s.segment g).poll.isSome → (s.segment g).inCycle = true))
    ∧ ∀ i : SeatNo, stationLawful (s.station i) = true

/-! ## Lights (R165, R167) -/

/-- Every zone's mode and pending level are those of the first case of R167 that applies; every level, of a zone and of
a scene, lies from 0 to 255, and every scale from 0 to 256. -/
abbrev Levels (s : State) : Prop :=
  (∀ z : Fin 8,
    (s.lights.zones[z].mode, s.lights.zones[z].pending) = s.lights.pendingOf z s.lights.zones[z].current
      ∧ s.lights.zones[z].current ≤ 255 ∧ s.lights.zones[z].target ≤ 255 ∧ s.lights.zones[z].pending ≤ 255
      ∧ s.lights.zones[z].applied ≤ 255)
    ∧ (∀ (k : Fin 16) (z : Fin 8), s.lights.scenes[k].levels[z] ≤ 255)
    ∧ s.lights.dayScale ≤ 256 ∧ s.lights.duskScale ≤ 256 ∧ s.lights.nightScale ≤ 256

/-- The half-period timer runs exactly while FLASH is active (R176). -/
abbrev FlashTimer (s : State) : Prop := s.lights.flashTimer.isSome = s.lights.flashActive

/-! ## Ports (R184, R187, R194, R197) -/

/-- A request in progress is one its port has the right to issue and not one of the two that are carried out at GO
(R187); a port held by PRST# has no request in hand, no notice, no running silence timer and no transaction (R196,
R197). -/
abbrev Ports (s : State) : Prop :=
  ∀ p ∈ [Port.route, .crew, .fare],
    (∀ r ∈ (s.port p).busy, hasRight p r.kind = true ∧ r.kind ≠ .clearCounters ∧ r.kind ≠ .portReset)
      ∧ ((s.port p).prstHeld = true →
          (s.port p).busy = none ∧ (s.port p).notices = 0 ∧ (s.port p).silenceTimer = none
            ∧ (s.port p).transaction = .idle ∧ (s.port p).snapshot = none)
      ∧ (s.port p).pointer ≤ 65535

/-- While RESET# is held, the part stands at its device reset values whatever commands come, but for the PRST# pins
(R198). -/
abbrev Held (s : State) : Prop :=
  s.resetHeld = true → s = { State.held with pending := s.pending, ports := s.ports.underReset }

end Safety

/-- Every invariant together. -/
abbrev Safe (s : State) : Prop :=
  Safety.Route s ∧ Safety.Pointer s ∧ Safety.Fix s ∧ Safety.Stacks s ∧ Safety.Disabled s ∧ Safety.Queue s
    ∧ Safety.Judged s ∧ Safety.Live s ∧ Safety.Offers s ∧ Safety.Hold s ∧ Safety.Playing s ∧ Safety.Cut s
    ∧ Safety.Signals s ∧ Safety.Reader s ∧ Safety.Mirror s ∧ Safety.Census s ∧ Safety.Seats s ∧ Safety.Bus s ∧ Safety.Levels s
    ∧ Safety.FlashTimer s ∧ Safety.Ports s ∧ Safety.Held s

end Sys2Proof
end

