-- ==== Sys2Proof/Certificates/Slice0/Obligations.lean ====
section
/-!
DEFINITION. The statements for the provers, in the order of the manual's chapters (the firing of cues stands after the
blocks that take them). `s.answer p r d` stands for the owning block's answer to port `p` and `s.raise n` for a notice
raised at the three ports; AnswersNoticesAndAttention says what the two do. Where a statement gives a state as
`{ t with block := s.block } = s`, every block but the one named stands in `t` as it stood in `s`.
-/

open Sys2Proof Sys2Proof.Machine

/-! ## The queue of commands -/

/-- A step takes the command at the front of the queue and runs it on the state with the queue's rest. MODEL'S CHOICE
(log entry 2): on an empty queue one microsecond passes, unless RESET# is held, and nothing else. -/
def Obligations.AStepRunsTheFrontCommandOrIdles : Prop :=
  (∀ (c : Instr) (s : State), step { s with pending := c :: s.pending } = exec c s)
    ∧ (∀ s : State, s.pending = [] → step s = .next { s with now := if s.resetHeld = true then s.now else s.now + 1 })

/-- Every command answers a next state, whatever the state and the operands; it leaves the waiting commands alone, none
but DEVICE_RESET turns the clock back, and none but DEVICE_RESET and RESET_RELEASE moves RESET#. MODEL'S CHOICE: a
command with nothing to act on completes and changes nothing (log entry 3), so does one with operands that no sender has
(log entry 30), DEVICE_RESET keeps the waiting commands (log entry 1), and the clock is the model's own (log entry 2).
-/
def Obligations.EveryCommandCompletesAndLeavesTheQueue : Prop :=
  ∀ (c : Instr) (s : State), ∃ t, exec c s = .next t
    ∧ t.pending = s.pending
    ∧ (c ≠ .deviceReset → s.now ≤ t.now)
    ∧ (c ≠ .deviceReset → c ≠ .resetRelease → t.resetHeld = s.resetHeld)

/-! ## Answers and notices (R184, R192, R197) -/

/-- The owning block's answer returns the port's engine to IDLE with the result and detail and sets REQ_DONE at the
issuing port, unless its PRST# is held; nothing else changes (R184, R192, R197). A notice raised at the three ports is
set in each set but that of a port whose PRST# is held, stays set where it already was, and changes nothing else; the
sixteen notices have the sixteen bits of NOTICES (R192, R197). ATN# is driven low exactly while a notice is both set
and unmasked and neither RESET# nor the port's PRST# is held (R193, R197, R198). -/
def Obligations.AnswersNoticesAndAttention : Prop :=
  (∀ (s : State) (p : Port) (r : ResultCode) (d : Word),
    (s.answer p r d).port p =
        { s.port p with
          busy := none, result := r, detail := d
          notices := if (s.port p).prstHeld then (s.port p).notices else (s.port p).notices ||| 0x0001#16 }
      ∧ (∀ q, q ≠ p → (s.answer p r d).port q = s.port q)
      ∧ { s.answer p r d with ports := { (s.answer p r d).ports with windows := s.ports.windows } } = s)
    ∧ ((∀ (s : State) (n : Notice) (p : Port),
    (s.raise n).port p =
        { s.port p with
          notices := if (s.port p).prstHeld then (s.port p).notices else (s.port p).notices ||| n.bit })
    ∧ (∀ (s : State) (n : Notice), { s.raise n with ports := { (s.raise n).ports with windows := s.ports.windows } } = s)
    ∧ [Notice.reqDone, .reqOverrun, .mark, .switchDone, .switchLate, .routeStale, .annStart, .annEnd, .cueDropped,
        .contextLost, .underrun, .chainError, .seatEvent, .stationFault, .portSilent, .catalogue].map (·.bit.toNat)
      = (List.range 16).map fun k => 2 ^ k)
    ∧ (∀ (s : State) (p : Port),
    attention s p = true ↔ s.resetHeld = false ∧ (s.port p).prstHeld = false
      ∧ ∃ k < 16, (s.port p).notices.getLsbD k = true ∧ (s.port p).mask.getLsbD k = false)

/-! ## Device reset (R198 and the reset values of each chapter) -/

/-- DEVICE_RESET returns every block to its reset values and holds RESET#; the waiting commands and the levels on the
PRST# pins, which are not the part's, stay. RESET_RELEASE then starts the header read, the first poll cycle on every
segment and the first conversion. What reset leaves, of the values the manual gives, is what the tables at the head of
each chapter say (R1, R6 to R8, R15, R18, R34, R46, R60, R66, R94, R98, R118, R134, R147, R149, R165, R172, R174, R176,
R191, R198, R200). MODEL'S CHOICE: where the machine stands right after reset, and what of the pins and the waiting
commands a device reset keeps (log entry 1); RESET_RELEASE does nothing while RESET# is not held (log entry 3); a
transaction in progress has ended for good (log entry 38). -/
def Obligations.DeviceResetAndItsRelease : Prop :=
  (∀ s : State, ∃ t, exec .deviceReset s = .next t
    ∧ t.resetHeld = true ∧ t.pending = s.pending
    ∧ (∀ p, t.port p = { PortState.reset with prstHeld := (s.port p).prstHeld })
    ∧ { t with pending := [], ports := PortInterface.reset } = State.held
    ∧ t.ports.counters = Counters.reset)
    ∧ (∀ s : State, s.resetHeld = true →
      exec .resetRelease s = .next
        { s with
          resetHeld := false
          reader := { s.reader with inFlight := some ⟨.header, 0, 64, 250⟩ }
          bus := { s.bus with segments := vmap (fun g => { g with inCycle := true }) s.bus.segments }
          lights := { s.lights with run := true } })
    ∧ (∀ s : State, s.resetHeld = false → exec .resetRelease s = .next s)
    ∧ let s := State.reset
      (s.route.distance = 0 ∧ s.route.lap = 0 ∧ s.route.loopLength = 65535 ∧ s.route.trip = 0 ∧ s.route.speed = 0
        ∧ s.route.band = 0 ∧ s.route.prescaler = 0 ∧ s.route.stale = true ∧ s.route.fixTimer = none)
      ∧ (s.script.active = .bank0 ∧ s.script.claimant = none ∧ s.script.pendingSwitch = none ∧ s.script.pointer = 0
        ∧ s.script.bank0.loopLength = 0 ∧ s.script.bank1.loopLength = 0 ∧ s.script.bank0.cueCount = 0
        ∧ s.script.bank1.cueCount = 0 ∧ s.script.markNumber = 0 ∧ s.script.markCount = 0)
      ∧ (s.reader.catalogue = .loading ∧ s.reader.badReason = .none ∧ s.reader.lastServed = 11)
      ∧ (∀ c : ChannelNo, (s.channel c).enabled = false ∧ (s.channel c).playState = .quiet ∧ (s.channel c).stack = []
        ∧ (s.channel c).label0 = 0x20#8 ∧ (s.channel c).label1 = 0x20#8 ∧ (s.channel c).toggle = .x
        ∧ (s.channel c).bufX.owner = .reader ∧ (s.channel c).bufY.owner = .reader ∧ (s.channel c).listened = false)
      ∧ (s.engine.deckChannel = none ∧ s.engine.deckVolume = 8)
      ∧ (s.queue.entries = [] ∧ s.queue.lastId = 0 ∧ s.queue.liveTimer = none ∧ s.queue.capture = none
        ∧ s.queue.lastEndedId = 0 ∧ s.queue.lastOutcome = .none ∧ s.queue.endCount = 0 ∧ s.queue.flash = false
        ∧ s.queue.safety = false)
      ∧ (∀ i : SeatNo, s.station i = ⟨.absent, 0, false, false⟩ ∧ (s.seat i).language = none ∧ (s.seat i).lock = false
        ∧ (s.seat i).tag = none ∧ (s.seat i).volume = 8 ∧ (s.seat i).effective = 8 ∧ (s.seat i).lockTimer = none)
      ∧ (s.roster.enabled = 0 ∧ s.roster.changeCount = 0 ∧ ∀ c : ChannelNo, s.roster.census[c] = 0)
      ∧ (∀ z : Fin 8, s.lights.zones[z] = ⟨0, 0, 0, 0, .scaled⟩)
      ∧ (s.lights.sceneInForce = none ∧ s.lights.ambient = .dusk ∧ s.lights.candidate = none ∧ s.lights.candidateCount = 0
        ∧ s.lights.phaseOn = true ∧ s.lights.flashActive = false ∧ s.lights.safetyActive = false)
      ∧ (∀ p : Port, (s.port p).busy = none ∧ (s.port p).notices = 0 ∧ (s.port p).mask = 0xFFFF#16
        ∧ (s.port p).silent = false ∧ (s.port p).silenceTimer = none ∧ (s.port p).pointer = 0
        ∧ (s.port p).deviceRestarted = true ∧ (s.port p).portRestarted = false)
      ∧ (List.range 24).map (fun n => (settingWord s n).toNat)
        = [8, 200, 30, 94, 20, 120, 16, 1, 0, 1, 2, 3, 250, 0xC0, 600, 120, 0, 128, 256, 0, 0, 0, 0, 0]
      ∧ ∀ n < 24, s.ports.counters.tableWord n = 0

/-! ## Route position (01_route_position.md) -/

/-- The route counter one metre on: the next metre, or 0 on the next lap from the last metre of the loop (R2, R5). -/
def Claims.metreOn (r : RouteCounter) : RouteCounter :=
  if r.distance < r.loopLength - 1 then { r with distance := r.distance + 1 }
  else { r with distance := 0, lap := if r.lap = 15 then 0 else r.lap + 1 }

/-- A pending switch record when the route has moved one metre to `r`: a wrap to the lap after its target lap counts it
late once more, up to 15 (R29). -/
def Claims.lateAt (r : RouteCounter) (w : PendingSwitch) : PendingSwitch :=
  if r.distance = 0 ∧ r.lap = (w.lap + 1) % 16 then
    { w with lateLaps := if w.lateLaps < 15 then w.lateLaps + 1 else 15 }
  else w

/-- An odometer pulse adds one to the prescaler; the pulse that reaches the ratio restarts it at 0 and moves the route
one metre, adding one to the trip distance, which stops at its maximum, and one to the speed window. Short of a pending
switch's point the route counter is exactly that, and the record stays, but that a wrap to the lap after its target lap
counts it late once more and raises SWITCH_LATE. A pulse touches neither the store reader, the seat bus, the roster, the
banks nor the claim. While RESET# is held a pulse is not counted (R2, R3, R5, R6, R7, R29). -/
def Obligations.OdometerPulsesCountMetres : Prop :=
  ∀ s : State, s.route.lap < 16 → 1 ≤ s.route.loopLength →
    let r := Claims.metreOn s.route
    (s.resetHeld = true → exec .odometerPulse s = .next s)
    ∧ (s.resetHeld = false → s.route.prescaler + 1 < s.route.ratio →
        exec .odometerPulse s = .next { s with route := { s.route with prescaler := s.route.prescaler + 1 } })
    ∧ (s.resetHeld = false → s.route.ratio ≤ s.route.prescaler + 1 →
        (∀ w ∈ s.script.pendingSwitch, ¬(w.lap = r.lap ∧ w.position = r.distance)) →
        ∃ t, exec .odometerPulse s = .next t
          ∧ t.route =
              { r with
                prescaler := 0
                trip := if s.route.trip < 4294967295 then s.route.trip + 1 else 4294967295
                windowCount := s.route.windowCount + 1 }
          ∧ t.reader = s.reader ∧ t.bus = s.bus ∧ t.roster = s.roster ∧ t.now = s.now
          ∧ t.script.bank0 = s.script.bank0 ∧ t.script.bank1 = s.script.bank1 ∧ t.script.active = s.script.active
          ∧ t.script.claimant = s.script.claimant
          ∧ t.script.pendingSwitch = s.script.pendingSwitch.map (Claims.lateAt r)
          ∧ (∀ w ∈ s.script.pendingSwitch, r.distance = 0 → r.lap = (w.lap + 1) % 16 →
            ∀ p, (s.port p).prstHeld = false → (t.port p).notices &&& 0x0010#16 = 0x0010#16))

/-- The odometer advance that brings the route to the lap and position of the pending switch executes it: the bank
roles exchange, the record goes, the new loop length is in force with the position re-based, the pointer stands at the
first cue of the new active bank beyond the re-based distance, SWITCH_DONE is set, and neither the banks nor the claim
changes (R16, R32, R33). -/
def Obligations.AnAdvanceToTheSwitchPointSwitches : Prop :=
  ∀ (s : State) (w : PendingSwitch), s.resetHeld = false → s.route.ratio ≤ s.route.prescaler + 1 →
    s.route.lap < 16 → 1 ≤ s.route.loopLength → s.script.pendingSwitch = some w →
    w.lap = (Claims.metreOn s.route).lap → w.position = (Claims.metreOn s.route).distance →
    ∃ t, exec .odometerPulse s = .next t
      ∧ t.script.active = s.script.active.other
      ∧ t.script.bank0 = s.script.bank0 ∧ t.script.bank1 = s.script.bank1
      ∧ t.script.claimant = s.script.claimant ∧ t.script.pendingSwitch = none
      ∧ t.route.loopLength = s.script.shadowBank.loopLength
      ∧ (if (Claims.metreOn s.route).distance < s.script.shadowBank.loopLength then
          t.route.distance = (Claims.metreOn s.route).distance ∧ t.route.lap = (Claims.metreOn s.route).lap
        else t.route.distance = 0 ∧ t.route.lap = ((Claims.metreOn s.route).lap + 1) % 16)
      ∧ t.script.pointer = s.script.shadowBank.seek t.route.distance
      ∧ (∀ p, (s.port p).prstHeld = false → (t.port p).notices &&& 0x0008#16 = 0x0008#16)

/-- A cue pointer for distance `q` that every cue before it lies at or before `q`, and the cue it names, if any, lies
beyond `q` (R34). -/
abbrev Claims.pointsBeyond (b : Bank) (q i : Nat) : Prop :=
  i ≤ b.cueCount ∧ i ≤ 256
    ∧ (∀ (j : Nat) (h : j < 256), j < i → (b.slots[j]).position ≤ q)
    ∧ (∀ h : i < 256, i < b.cueCount → q < (b.slots[i]).position)

/-- A FIX with a distance beyond the loop in force or a lap that is neither 0 to 15 nor KEEP is refused BAD_ARGUMENT
and changes no route state. An accepted one clears the prescaler, restarts the fix timer, clears STALE (raising
ROUTE_STALE if it was set), and ends with OK; with a forward distance of 0 it moves nothing; with one beyond the jump
window it sets the distance, fires nothing and points the script beyond it; a lap, if given, is set last (R9, R12,
R13, R15, R34). -/
def Obligations.FixIsRefusedStaysOrSeeks : Prop :=
  ∀ (s : State) (a : Args), s.inHand .route .fix = some a →
    let q := a.a0.toNat
    let lapOk := a.a1.toNat ≤ 15 ∨ a.a1 = 0xFFFF#16
    let forward := if s.route.distance ≤ q then q - s.route.distance else s.route.loopLength - s.route.distance + q
    let fresh : RouteCounter :=
      { s.route with
        prescaler := 0
        fixTimer := some (s.now + s.route.fixTimeout * 1000000)
        stale := false
        lap := if a.a1 = 0xFFFF#16 then s.route.lap else a.a1.toNat }
    let noticed := if s.route.stale = true then s.raise .routeStale else s
    (¬lapOk ∨ s.route.loopLength ≤ q → exec .fix s = .next (s.answer .route .badArgument 0))
    ∧ (lapOk → q < s.route.loopLength → forward = 0 →
        exec .fix s = .next ({ noticed with route := fresh }.answer .route .ok 0))
    ∧ (lapOk → q < s.route.loopLength → s.route.jumpWindow < forward →
        ∃ i, Claims.pointsBeyond s.script.activeBank q i
          ∧ exec .fix s = .next
              ({ noticed with
                route := { fresh with distance := q }
                script := { s.script with pointer := i } }.answer .route .ok 0))

/-- The fix timer's expiry stops it, sets STALE and raises ROUTE_STALE. At the end of a speed window the speed becomes
its count, limited to 255, the band follows the table of R8, and a new window opens; the roster takes a changed band
and recomputes every seat's effective volume (the volume with the band's trim, limited to 15, on the upper deck; the
volume on the lower), and nothing else of it changes (R7, R8, R15, R162). MODEL'S CHOICE: the clock stands at the moment
of the event at least (log entry 2), and where no fix timer runs nothing changes (log entry 3). -/
def Obligations.FixTimerAndSpeedWindow : Prop :=
  (∀ (s : State) (at' : Nat), s.route.fixTimer = some at' →
    exec .fixTimerExpiry s = .next
      ({ s with now := max s.now at', route := { s.route with fixTimer := none, stale := true } }.raise .routeStale))
    ∧ (∀ s : State, s.route.fixTimer = none → exec .fixTimerExpiry s = .next s)
    ∧ ∀ s : State, s.resetHeld = false → ∃ t, exec .speedWindowEnd s = .next t
        ∧ t.route.speed = (if s.route.windowCount ≤ 255 then s.route.windowCount else 255)
        ∧ t.route.band.val =
            (if t.route.speed < 4 then 0 else if t.route.speed < 8 then 1 else if t.route.speed < 12 then 2 else 3)
        ∧ t.route.windowCount = 0 ∧ t.route.windowEnd = s.route.windowEnd + 1000000
        ∧ { t.route with
            speed := s.route.speed, band := s.route.band, windowCount := s.route.windowCount
            windowEnd := s.route.windowEnd } = s.route
        ∧ (t.route.band = s.route.band → t.roster = s.roster)
        ∧ (t.route.band ≠ s.route.band → t.roster.band = t.route.band
          ∧ (∀ i : SeatNo, t.seat i =
              { s.seat i with
                effective := if i.val < 64 then min ((s.seat i).volume + s.roster.trims[t.route.band]) 15
                  else (s.seat i).volume })
          ∧ { t.roster with band := s.roster.band, seats := s.roster.seats } = s.roster)
        ∧ t.now = max s.now s.route.windowEnd
        ∧ { t with route := s.route, roster := s.roster, now := s.now } = s

/-! ## Cue scripts and bank switching (02_cue_scripts_and_bank_switching.md) -/

/-- CLAIM_SHADOW makes the issuing port the claimant when there is none, whether or not a switch is pending, and is
otherwise refused HELD with the claimant as detail and the claim unchanged (R22). RELEASE_SHADOW from the claimant ends
the claim, leaving the banks and a pending switch as they are; from any other port it is refused NOT_HOLDER with the
claimant, or NONE, as detail (R23). CANCEL_SWITCH from a port that is not the claimant is refused NOT_HOLDER; from the
claimant with none pending it is refused NO_SUCH_ENTRY; otherwise the record is removed (R30). -/
def Obligations.ShadowClaimsAndTheCancelledSwitch : Prop :=
  ∀ (s : State) (p : Port) (a : Args),
    let notHolder := s.answer p .notHolder
      (match s.script.claimant with
        | none => 0
        | some .route => 1
        | some .crew => 2
        | some .fare => 3)
    (s.inHand p .claimShadow = some a →
      (s.script.claimant = none →
        exec (.claimShadow p) s = .next ({ s with script := { s.script with claimant := some p } }.answer p .ok 0))
      ∧ (s.script.claimant = some .route → exec (.claimShadow p) s = .next (s.answer p .held 1))
      ∧ (s.script.claimant = some .crew → exec (.claimShadow p) s = .next (s.answer p .held 2))
      ∧ (s.script.claimant = some .fare → exec (.claimShadow p) s = .next (s.answer p .held 3)))
    ∧ (s.inHand p .releaseShadow = some a →
      (s.script.claimant = some p →
        exec (.releaseShadow p) s = .next ({ s with script := { s.script with claimant := none } }.answer p .ok 0))
      ∧ (s.script.claimant ≠ some p → exec (.releaseShadow p) s = .next notHolder))
    ∧ (s.inHand p .cancelSwitch = some a →
      (s.script.claimant ≠ some p → exec (.cancelSwitch p) s = .next notHolder)
      ∧ (s.script.claimant = some p → s.script.pendingSwitch = none →
        exec (.cancelSwitch p) s = .next (s.answer p .noSuchEntry 0))
      ∧ (s.script.claimant = some p → s.script.pendingSwitch.isSome →
        exec (.cancelSwitch p) s = .next ({ s with script := { s.script with pendingSwitch := none } }.answer p .ok 0)))

/-- A cue of a shadow bank that passes every test of R27; `before` is the position of the cue before it. -/
abbrev Claims.cuePasses (loopLength : Nat) (before : Option Nat) (q : CueSlot) : Prop :=
  q.w0.toNat < loopLength
    ∧ (∀ x ∈ before, x ≤ q.w0.toNat)
    ∧ field q.w1 13 3 ≤ 4
    ∧ (field q.w1 13 3 ≤ 2 → field q.w1 0 12 ≠ 0)
    ∧ (field q.w1 13 3 = 0 ∨ field q.w1 13 3 = 2 → field q.w2 0 11 < 1024)
    ∧ (field q.w1 13 3 = 2 → field q.w3 0 12 ≠ 0)
    ∧ (field q.w1 13 3 = 2 → q.w1.getLsbD 12 = false → q.w2.getLsbD 14 = false)

/-- The position of the cue before cue `i`; the cue at index 0 has none. -/
def Claims.before (b : Bank) (i : Nat) : Option Nat :=
  if i = 0 then none else b.slots[i - 1]?.map fun q => q.w0.toNat

/-- The shadow bank and the switch position pass validation (R26, R27). -/
abbrev Claims.scriptValid (b : Bank) (position loopLength : Nat) : Prop :=
  100 ≤ b.loopLength ∧ b.cueCount ≠ 0 ∧ position < loopLength
    ∧ ∀ (i : Nat) (h : i < 256), i < b.cueCount → Claims.cuePasses b.loopLength (Claims.before b i) b.slots[i]

/-- SWITCH, judged in the order of R25: NOT_HOLDER, LOCKED, SCRIPT_INVALID with 256 for the header or the switch point
and else the index of the first cue that fails, or OK with the pending record of R28: the target lap is the lap
counter plus the delta, and a point already passed on this lap counts late, one lap on, with SWITCH_LATE raised (R25
to R28). -/
def Obligations.SwitchIsValidatedAndRecorded : Prop :=
  ∀ (s : State) (p : Port) (a : Args), s.inHand p .switch = some a →
    let delta := if a.a0.getLsbD 15 then 1 else field a.a0 0 4
    let position := if a.a0.getLsbD 15 then 0 else a.a1.toNat
    let b := s.script.shadowBank
    (s.script.claimant ≠ some p →
      exec (.switch p) s = .next (s.answer p .notHolder
        (match s.script.claimant with
          | none => 0
          | some .route => 1
          | some .crew => 2
          | some .fare => 3)))
    ∧ (s.script.claimant = some p → s.script.pendingSwitch.isSome → exec (.switch p) s = .next (s.answer p .locked 0))
    ∧ (s.script.claimant = some p → s.script.pendingSwitch = none →
        b.loopLength < 100 ∨ b.cueCount = 0 ∨ s.route.loopLength ≤ position →
        exec (.switch p) s = .next (s.answer p .scriptInvalid 256))
    ∧ (s.script.claimant = some p → s.script.pendingSwitch = none →
        100 ≤ b.loopLength → b.cueCount ≠ 0 → position < s.route.loopLength →
        ∀ (i : Nat) (h : i < 256), i < b.cueCount →
          ¬Claims.cuePasses b.loopLength (Claims.before b i) b.slots[i] →
          (∀ (j : Nat) (h : j < 256), j < i → Claims.cuePasses b.loopLength (Claims.before b j) b.slots[j]) →
          exec (.switch p) s = .next (s.answer p .scriptInvalid (BitVec.ofNat 16 i)))
    ∧ (s.script.claimant = some p → s.script.pendingSwitch = none →
        Claims.scriptValid b position s.route.loopLength →
        (delta ≠ 0 ∨ s.route.distance < position →
          exec (.switch p) s = .next
            ({ s with script :=
                { s.script with pendingSwitch := some ⟨(s.route.lap + delta) % 16, position, 0⟩ } }.answer p .ok 0))
        ∧ (delta = 0 → position ≤ s.route.distance →
          exec (.switch p) s = .next
            (({ s with script :=
                { s.script with pendingSwitch := some ⟨(s.route.lap + 1) % 16, position, 1⟩ } }.raise
                .switchLate).answer p .ok 0)))

/-! ## Clip store and store reader (03_clip_store_and_store_reader.md) -/

/-- The level of a channel's highest request: 1 a directory fetch, 2 an audio read while both buffers are
reader-owned, 3 an audio read in ANNOUNCE, 4 any other audio read (R59). -/
def Claims.requestLevel (ch : ChannelRec) : Option Nat :=
  match ch.fetch, ch.audioRequest with
  | .pending _, _ => some 1
  | _, some _ =>
    if ch.bufX.owner = .reader ∧ ch.bufY.owner = .reader then some 2
    else if ch.playState = .announce then some 3
    else some 4
  | _, none => none

/-- How far channel `c` stands after the last served in round-robin order: 0 for the next channel, 11 for the last
served itself (R60). -/
def Claims.turnsAway (lastServed c : ChannelNo) : Nat := (c.val + 11 - lastServed.val) % 12

/-- Channel `c` is the one served: no channel has a request of a higher level, nor one of its own level that comes
before it in round-robin (R59, R60). -/
abbrev Claims.isServed (s : State) (c : ChannelNo) (level : Nat) : Prop :=
  Claims.requestLevel (s.channel c) = some level
    ∧ ∀ (d : ChannelNo) (m : Nat), Claims.requestLevel (s.channel d) = some m → level ≤ m
      ∧ (m = level → Claims.turnsAway s.reader.lastServed c ≤ Claims.turnsAway s.reader.lastServed d)

/-- `s` with channel `c`'s record `x`, and nothing else changed. -/
def Claims.withChannel (s : State) (c : ChannelNo) (x : ChannelRec) : State :=
  { s with engine := { s.engine with channels := s.engine.channels.set c x } }

/-- READ_START starts nothing while a read is in flight, while the catalogue is BAD, and while no channel has a
request. Otherwise it starts the request of the channel that levels and round-robin choose, which becomes the last
served: a directory request reads the group's 64-byte record and takes 0.25 ms times the divider; an audio request
reads the 512-byte block its tag names into its target buffer, granted to the reader with the tag, and takes 1.25 ms
times the divider (R44, R46, R55, R57, R59 to R61). -/
def Obligations.ReadStartServesTheHighestRequest : Prop :=
  ∀ s : State, s.resetHeld = false →
    (s.reader.inFlight.isSome ∨ s.reader.catalogue = .bad
        ∨ (∀ c : ChannelNo, Claims.requestLevel (s.channel c) = none) →
      exec .readStart s = .next s)
    ∧ (s.reader.inFlight = none → s.reader.catalogue ≠ .bad → ∀ (c : ChannelNo),
        (∀ g : Nat, Claims.isServed s c 1 → (s.channel c).fetch = .pending g →
          exec .readStart s = .next
            (Claims.withChannel
              { s with reader :=
                  { s.reader with
                    lastServed := c
                    inFlight := some ⟨.directory c, 512 * (1 + g / 8) + 64 * (g % 8), 64,
                      s.now + 250 * s.reader.divider⟩ } }
              c { s.channel c with fetch := .inFlight g }))
        ∧ (∀ (level : Nat) (n : BufName) (tag : Tag) (e : LangEntry), Claims.isServed s c level → level ≠ 1 →
          (s.channel c).audioRequest = some (n, tag) → (s.channel c).playhead.entry = some e →
          exec .readStart s = .next
            (Claims.withChannel
              { s with reader :=
                  { s.reader with
                    lastServed := c
                    inFlight := some ⟨.audio c n tag, 512 * (e.start + tag.offset), 512,
                      s.now + 1250 * s.reader.divider⟩ } }
              c ((s.channel c).setBuf n { (s.channel c).buf n with owner := .reader, tag := some tag }))))

/-- A channel's audio request: it is LISTENED, in COMMENTARY or HOLD or ANNOUNCE, the group at its playhead has a
playable entry whose record has been taken, and the target is a reader-owned buffer whose block lies within that
entry: the toggle-selected buffer for the playhead's block, else the other buffer for the block after it (R58). An
audio read's completion frees the store and fills its target. The tag is fresh while the channel is LISTENED and its
playhead names the tag's group at the tag's offset for the toggle-selected buffer, or one block before it for the
other: the buffer is then PLAYER-owned with the 512 bytes; any other tag leaves it with the reader, its contents
discarded (R61 to R63). MODEL'S CHOICE: the clock stands at the read's end at least (log entry 2), a buffer the reader
owns holds no tag and no bytes (log entry 19), a playhead that awaits a record is in the group whose step is pending
(log entry 34), and with no audio read in flight nothing happens (log entry 3). -/
def Obligations.AudioReadsAreRequestedAndTaken : Prop :=
  (∀ (ch : ChannelRec) (n : BufName) (tag : Tag),
    ch.audioRequest = some (n, tag) ↔
      ch.listened = true ∧ (ch.playState = .commentary ∨ ch.playState = .hold ∨ ch.playState = .announce)
        ∧ ∃ (at' : Tag) (e : LangEntry), ch.playhead.tag = some at' ∧ ch.playhead.entry = some e
          ∧ (ch.buf n).owner = .reader ∧ tag.offset < e.length ∧ tag.group = at'.group
          ∧ (if (ch.buf ch.toggle).owner = .reader then n = ch.toggle ∧ tag.offset = at'.offset
            else n = ch.toggle.other ∧ tag.offset = at'.offset + 1))
    ∧ ((∀ (s : State) (b : Vector Byte 512) (r : Read) (c : ChannelNo) (n : BufName) (tag : Tag),
    s.reader.inFlight = some r → r.kind = .audio c n tag →
    let ch := s.channel c
    let fresh := ch.listened = true ∧ ∃ at' : Tag, ch.playhead.tag = some at' ∧ tag.group = at'.group
      ∧ tag.offset = (if n = ch.toggle then at'.offset else at'.offset + 1)
    let filled (x : Buffer) : State :=
      Claims.withChannel { s with now := max s.now r.ends, reader := { s.reader with inFlight := none } } c (ch.setBuf n x)
    (fresh → exec (.audioReadComplete b) s = .next (filled ⟨.player, some tag, b.toList⟩))
    ∧ (¬fresh → exec (.audioReadComplete b) s = .next (filled ⟨.reader, none, []⟩)))
    ∧ ∀ (s : State) (b : Vector Byte 512), (∀ r ∈ s.reader.inFlight, ∀ c n tag, r.kind ≠ .audio c n tag) →
      exec (.audioReadComplete b) s = .next s)

/-- The reason a header is BAD, by the first test of R45 it fails; `none` for a valid one. -/
def Claims.headerFault (b : Vector Byte 64) : BadReason :=
  let size := b[6].toNat * 256 + b[7].toNat
  let groups := b[8].toNat * 256 + b[9].toNat
  if b[0].toNat ≠ 0x44 ∨ b[1].toNat ≠ 0x4B ∨ b[2].toNat ≠ 0x43 ∨ b[3].toNat ≠ 0x53 then .signature
  else if b[4].toNat ≠ 1 then .version
  else if size < 130 ∨ 32768 < size then .size
  else if groups = 0 ∨ 1024 < groups then .groups
  else .none

/-- The header read's completion judges the header in the order of R45: a valid one makes the catalogue READY with its
store size and group count, and any other BAD with the reason and both at 0; the store is free and CATALOGUE is
raised (R45, R46, R63). MODEL'S CHOICE: the clock stands at the read's end at least (log entry 2), and with no header
read in flight nothing happens (log entry 3). -/
def Obligations.TheHeaderReadJudgesTheCatalogue : Prop :=
  (∀ (s : State) (b : Vector Byte 64) (r : Read), s.reader.inFlight = some r → r.kind = .header →
    exec (.headerReadComplete b) s = .next
      ({ s with
        now := max s.now r.ends
        reader :=
          if Claims.headerFault b = BadReason.none then
            { s.reader with
              inFlight := none, catalogue := .ready, badReason := .none
              storeSize := b[6].toNat * 256 + b[7].toNat, groupCount := b[8].toNat * 256 + b[9].toNat }
          else
            { s.reader with
              inFlight := none, catalogue := .bad, badReason := Claims.headerFault b, storeSize := 0, groupCount := 0 }
      }.raise .catalogue))
    ∧ ∀ (s : State) (b : Vector Byte 64), (∀ r ∈ s.reader.inFlight, r.kind ≠ .header) →
      exec (.headerReadComplete b) s = .next s

/-- A CHAIN_ERROR: the notice at all ports and one more in the chain-error counter, up to 65,535 (R52). -/
def Claims.chainErrored (s : State) : State :=
  { s.raise .chainError with
    ports :=
      { (s.raise .chainError).ports with
        counters := { s.ports.counters with chainErrors := min (s.ports.counters.chainErrors + 1) 65535 } } }

/-- The group to which a chain that has counted `walked` groups goes on by the next-group field `next`: none at END, at
an invalid link and past the chain limit (R51, R52). -/
def Claims.linkTo (s : State) (next walked : Nat) : Option Nat :=
  if next < 1024 ∧ next < s.reader.groupCount ∧ walked + 1 ≤ s.engine.chainLimit then some next else none

/-- A directory fetch's completion frees the store; an abandoned fetch changes nothing more. A chain judges the record,
and an invalid entry counts a CHAIN_ERROR. A playable entry that a chain awaits, at its start or between groups, is
entered where the playhead's offset lies within it, and its link followed at once; past its end the chain moves on by
its link and keeps time from offset 0. An absent or invalid entry is passed over and its link followed. In the
look-ahead of a group that plays, a playable entry is held as the chain's next step, and any other is passed over. A
link leads to the group it names, or ends the walk: without a CHAIN_ERROR at END, with one where it is invalid or the
chain limit is reached. Nothing but this channel's playhead and directory request, the CHAIN_ERRORs and the reader
changes (R49, R51 to R53, R57, R63). MODEL'S CHOICE: the clock stands at the read's end at least (log entry 2), a group
that is over at once is left with offset 0 (log entry 13), and a group passed over at a start or resume leaves the
offset as it is (log entry 33). -/
def Obligations.ADirectoryFetchIsHandedToItsChannel : Prop :=
  ∀ (s : State) (b : Vector Byte 64) (r : Read) (c : ChannelNo), s.reader.inFlight = some r → r.kind = .directory c →
    let start := (b[4 * c.val]'(by omega)).toNat % 128 * 256 + (b[4 * c.val + 1]'(by omega)).toNat
    let length := (b[4 * c.val + 2]'(by omega)).toNat % 32 * 256 + (b[4 * c.val + 3]'(by omega)).toNat
    let next := b[48].toNat * 256 + b[49].toNat
    let unbroken := b[50].getLsbD 0
    let playable : Prop := length ≠ 0 ∧ 129 ≤ start ∧ start + length ≤ s.reader.storeSize
    let freed : State := { s with now := max s.now r.ends, reader := { s.reader with inFlight := none } }
    let goes : Nat → Option Nat := Claims.linkTo s next
    let met (u : State) : State :=
      if length ≠ 0 ∧ (start < 129 ∨ s.reader.storeSize < start + length) then Claims.chainErrored u else u
    let leaves (w : Nat) (k : Chain) : Prop :=
      let u := met (Claims.withChannel freed c
        { s.channel c with
          fetch := match goes w with
            | some g => .pending g
            | none => .none
          playhead := .chain k })
      exec (.directoryFetchComplete b) s = .next
        (if goes w = none ∧ next ≠ 0xFFFF then Claims.chainErrored u else u)
    ((∀ g, (s.channel c).fetch ≠ .inFlight g) → exec (.directoryFetchComplete b) s = .next freed)
    ∧ (∀ (g : Nat) (k : Chain), (s.channel c).fetch = .inFlight g → (s.channel c).playhead = .chain k →
        (∀ w : Nat, k.phase = .awaiting ∧ w = k.walked ∨ k.phase = .between w → playable →
          (k.offset < length → leaves w
            { k with
              walked := w
              phase := .playing ⟨start, length⟩ unbroken
                (match goes w with
                  | some n => .walking n (w + 1)
                  | none => .ended) })
          ∧ (length ≤ k.offset → leaves w
            (match goes w with
              | some n => { k with walked := w, group := n, offset := 0, phase := .between (w + 1) }
              | none => { k with walked := w, phase := .ended })))
        ∧ (¬playable →
          (k.phase = .awaiting → leaves k.walked
            (match goes k.walked with
              | some n => { k with group := n, walked := k.walked + 1 }
              | none => { k with phase := .ended }))
          ∧ (∀ w : Nat, k.phase = .between w → leaves w
            (match goes w with
              | some n => { k with group := n, phase := .between (w + 1) }
              | none => { k with phase := .ended }))
          ∧ (∀ (e : LangEntry) (u : Bool) (h w : Nat), k.phase = .playing e u (.walking h w) → leaves w
            (match goes w with
              | some n => { k with phase := .playing e u (.walking n (w + 1)) }
              | none => { k with phase := .playing e u .ended })))
        ∧ (playable → ∀ (e : LangEntry) (u : Bool) (h w : Nat), k.phase = .playing e u (.walking h w) →
          exec (.directoryFetchComplete b) s = .next (Claims.withChannel freed c
            { s.channel c with
              fetch := .none
              playhead := .chain
                { k with phase := .playing e u (.found h ⟨start, length⟩ unbroken (b[48] ++ b[49]) w) } })))

/-! ## Language channels (04_language_channels.md) -/

/-- A block boundary settles every enabled channel: its full-period flag becomes its LISTENED state, and a disabled
channel is not touched. The deck output takes the deck channel and volume. Labels, enabled flags and LISTENED states
stay, and so do the route, the script, the store reader, the seat bus, the roster and the lights. Nothing happens
while RESET# is held (R66, R70, R73, R95). MODEL'S CHOICE: the clock stands at the boundary at least (log entry 2). -/
def Obligations.ABlockBoundarySettlesEveryChannel : Prop :=
  (∀ s : State, s.resetHeld = true → exec .blockBoundary s = .next s)
    ∧ ∀ s : State, s.resetHeld = false → ∃ t, exec .blockBoundary s = .next t
      ∧ (∀ c : ChannelNo, (s.channel c).enabled = true → (t.channel c).fullPeriod = (s.channel c).listened)
      ∧ (∀ c : ChannelNo, (s.channel c).enabled = false → t.channel c = s.channel c)
      ∧ (∀ c : ChannelNo, (t.channel c).enabled = (s.channel c).enabled
        ∧ (t.channel c).listened = (s.channel c).listened
        ∧ (t.channel c).label0 = (s.channel c).label0 ∧ (t.channel c).label1 = (s.channel c).label1)
      ∧ t.engine.deckOutChannel = s.engine.deckChannel ∧ t.engine.deckOutVolume = s.engine.deckVolume
      ∧ t.engine.nextBoundary = s.engine.nextBoundary + 32000
      ∧ { t.engine with
          channels := s.engine.channels, deckOutChannel := s.engine.deckOutChannel
          deckOutVolume := s.engine.deckOutVolume, nextBoundary := s.engine.nextBoundary } = s.engine
      ∧ t.route = s.route ∧ t.script = s.script ∧ t.reader = s.reader ∧ t.bus = s.bus ∧ t.roster = s.roster
      ∧ t.lights = s.lights ∧ t.now = max s.now s.engine.nextBoundary

/-- The notice of this bit stands at every port whose PRST# is not held (R192). -/
abbrev Claims.noticed (s t : State) (bit : Word) : Prop :=
  ∀ p, (s.port p).prstHeld = false → (t.port p).notices &&& bit = bit

/-- A boundary is to be settled on channel `c`: RESET# is released, the channel is enabled, and the queue, the offers,
the holds and the stacks are lawful. -/
abbrev Claims.boundaryOn (s : State) (c : ChannelNo) : Prop :=
  s.resetHeld = false ∧ (s.channel c).enabled = true ∧ Safety.Queue s ∧ Safety.Offers s ∧ Safety.Hold s ∧ Safety.Stacks s

/-- The group playing is UNBROKEN, its record taken (R85). -/
def Claims.unbroken (k : Chain) : Bool :=
  match k.phase with
  | .playing _ u _ => u
  | .awaiting => false
  | .between _ => false
  | .ended => false

/-- Channel `c`'s commentary or clip goes on over the boundary: it has no offer; or its commentary is in HOLD for a
STANDARD offer, no end boundary has come, and the hold record is not 0 or the group is UNBROKEN; or its clip has an
offer of no higher class (R85, R86). -/
abbrev Claims.goesOn (s : State) (c : ChannelNo) : Prop :=
  let ch := s.channel c
  ch.offer = none ∧ eligible s.queue.entries c = none ∧ (ch.playState = .commentary ∨ ch.playState = .announce)
    ∨ Claims.boundaryOn s c
      ∧ (match ch.playhead with
        | .chain k => ch.playState = .hold ∧ (∀ o ∈ ch.offer, o.cls = .standard) ∧ k.atEnd = false
            ∧ (ch.hold ≠ 0 ∨ Claims.unbroken k = true)
        | .clip _ => ch.playState = .announce ∧ ∀ o ∈ ch.offer, o.cls.rank ≤ ch.itemClass.rank
        | .none => False
        | .mic _ _ => False)

/-- Channel `c`'s player has met the block due, `due`, or none where no record tells it: taken from the toggle-selected
buffer, PLAYER-owned with its tag, whose samples go out while the channel is LISTENED and which goes back to the reader;
or missed, the period silent, and counted where the channel was LISTENED for the whole period. The toggle flips, and the
item goes on (R72 to R74). -/
abbrev Claims.blockMet (s t : State) (c : ChannelNo) (due : Option Tag) : Prop :=
  let ch := s.channel c
  let b := ch.buf ch.toggle
  let ready := b.owner = .player ∧ due.isSome ∧ b.tag = due
  (t.channel c).toggle = ch.toggle.other
    ∧ (t.channel c).playState = ch.playState ∧ (t.channel c).itemClass = ch.itemClass
    ∧ (t.channel c).hold = (if ch.playState = .hold then ch.hold - 1 else ch.hold)
    ∧ (t.channel c).fullPeriod = ch.listened ∧ (t.channel c).stack = ch.stack
    ∧ (ready → (t.channel c).buf ch.toggle = ⟨.reader, none, []⟩
      ∧ (t.channel c).output = (if ch.listened = true then .samples (b.data.map expand) else .silence)
      ∧ t.ports.counters.underruns[c] = s.ports.counters.underruns[c])
    ∧ (¬ready → (t.channel c).output = .silence
      ∧ t.ports.counters.underruns[c] =
        (if ch.listened = true ∧ ch.fullPeriod = true then min (s.ports.counters.underruns[c] + 1) 65535
          else s.ports.counters.underruns[c])
      ∧ (ch.listened = true → ch.fullPeriod = true → Claims.noticed s t 0x0400#16))

/-- At a boundary over which a channel's commentary or clip goes on, with no action pending for commentary, the block due
is taken or missed, and the playhead moves on one block either way. While a record is awaited, and between groups, no
block can be ready. Past the last block of a chain's group, the group found ahead is entered at block 0, its count the
chain's and its own link followed at once; while the walk ahead is under way the playhead keeps time from offset 0; and
where that has ended the chain has ended: each is an end boundary. Past the last block of a clip, the clip is finished
(R52, R53, R70, R72 to R75, R85). MODEL'S CHOICE: a buffer the reader owns holds no tag and no bytes (log entry 19). -/
def Obligations.ADueBlockIsPlayedOrMissed : Prop :=
  ∀ (s : State) (c : ChannelNo), s.resetHeld = false → (s.channel c).enabled = true → Claims.goesOn s c →
    let ch := s.channel c
    (∀ k : Chain, ch.playhead = .chain k → k.phase ≠ .ended → ch.playState = .commentary ∨ ch.playState = .hold →
      ch.action = .none →
      ∃ t, exec .blockBoundary s = .next t
        ∧ (∀ (e : LangEntry) (u : Bool) (ahead : Ahead), k.phase = .playing e u ahead →
          Claims.blockMet s t c (some ⟨k.group, k.offset⟩)
          ∧ (k.offset + 1 < e.length →
            (t.channel c).playhead = .chain { k with offset := k.offset + 1, atEnd := false }
              ∧ (t.channel c).fetch = ch.fetch)
          ∧ (e.length ≤ k.offset + 1 → match ahead with
            | .walking g w =>
              (t.channel c).playhead = .chain { k with group := g, offset := 0, phase := .between w, atEnd := true }
                ∧ (t.channel c).fetch = ch.fetch
            | .ended => (∃ x : Chain, (t.channel c).playhead = .chain x ∧ x.phase = .ended ∧ x.atEnd = true)
                ∧ (t.channel c).fetch = ch.fetch
            | .found g e' u' next w =>
              let link := Claims.linkTo s next.toNat w
              (t.channel c).playhead = .chain
                { k with
                  group := g, offset := 0, walked := w, atEnd := true
                  phase := .playing e' u' (match link with
                    | some m => .walking m (w + 1)
                    | none => .ended) }
              ∧ (t.channel c).fetch = (match link with
                | some m => .pending m
                | none => ch.fetch)
              ∧ (link = none → next.toNat ≠ 0xFFFF → Claims.noticed s t 0x0800#16)))
        ∧ (k.phase = .awaiting ∨ (∃ w, k.phase = .between w) →
          Claims.blockMet s t c none
            ∧ (t.channel c).playhead = .chain { k with offset := k.offset + 1, atEnd := false }
            ∧ (t.channel c).fetch = ch.fetch))
    ∧ ∀ cl : Clip, ch.playhead = .clip cl → cl.finished = false → ch.playState = .announce →
      ∃ t, exec .blockBoundary s = .next t
        ∧ Claims.blockMet s t c (cl.entry.map fun _ => ⟨cl.group, cl.offset⟩)
        ∧ (t.channel c).fetch = ch.fetch
        ∧ (t.channel c).playhead = .clip
          { cl with
            offset := cl.offset + 1
            finished := match cl.entry with
              | some e => decide (e.length ≤ cl.offset + 1)
              | none => false }

/-- Entry `e` owes channel `c` a PLAYING obligation, with listened-at-start recorded as `listened` (R101). -/
abbrev Claims.begun (t : State) (e : Entry) (c : ChannelNo) (listened : Bool) : Prop :=
  ∃ x ∈ t.queue.entries, x.id = e.id
    ∧ ∃ o ∈ x.obligations, o.channel = c ∧ o.state = .playing ∧ o.listenedAtStart = some listened

/-- Channel `c` has begun or restarted entry `e`'s clip of group `g`: ANNOUNCE with the entry's class, at block 0 with
its record requested and silence out (R74, R90). -/
abbrev Claims.clipOn (t : State) (c : ChannelNo) (e : Entry) (g : Nat) : Prop :=
  (t.channel c).playState = .announce ∧ (t.channel c).itemClass = e.cls.item
    ∧ (t.channel c).playhead = .clip ⟨e.id, g, 0, none, false, false⟩
    ∧ (t.channel c).fetch = .pending g ∧ (t.channel c).output = .silence

/-- Entry `e` has begun on channel `c` with the LISTENED state the channel had (R90, R101). -/
abbrev Claims.entryBegun (s t : State) (c : ChannelNo) (e : Entry) : Prop :=
  Claims.begun t e c (s.channel c).listened
    ∧ match e.content with
      | .clip g => Claims.clipOn t c e g
      | .mic =>
        (t.channel c).playState = .live ∧ (t.channel c).itemClass = .live ∧ (t.channel c).playhead = .mic e.id false
          ∧ (t.channel c).output = (if (s.channel c).listened = true then .microphone else .silence)

/-- Entry `e` begins where its turn comes on channel `c`: a clip on a LISTENED channel, with its group below the group
count; the microphone on any (R54, R89). -/
abbrev Claims.mayBegin (s : State) (c : ChannelNo) (e : Entry) : Prop :=
  match e.content with
  | .clip g => (s.channel c).listened = true ∧ g < s.reader.groupCount
  | .mic => True

/-- At a boundary, a QUIET channel without a pending action whose offer names an entry begins it: a STANDARD or
EXPRESS clip on a LISTENED channel in ANNOUNCE with the entry's class, at block 0 with its group's record requested
and silence out; the LIVE entry, LISTENED or not, in LIVE with the microphone out while LISTENED. Its obligation is
PLAYING with listened-at-start recorded. A clip whose group is not below the group count begins and ends there: it is
reported END and so HEARD, with a CHAIN_ERROR (R54, R70, R78, R89, R90, R101, R102). -/
def Obligations.AnOfferedEntryBeginsOnAQuietChannel : Prop :=
  ∀ (s : State) (c : ChannelNo) (e : Entry), s.resetHeld = false → Safety.Queue s → Safety.Stacks s →
    (s.channel c).enabled = true → (s.channel c).playState = .quiet → (s.channel c).action = .none →
    e ∈ s.queue.entries → eligible s.queue.entries c = some ⟨e.id, e.cls⟩ → (s.channel c).offer = some ⟨e.id, e.cls⟩ →
    ∃ t, exec .blockBoundary s = .next t
      ∧ (Claims.mayBegin s c e → Claims.entryBegun s t c e)
      ∧ (∀ g : Nat, e.content = .clip g → (s.channel c).listened = true → s.reader.groupCount ≤ g →
        (t.channel c).playState = .announce ∧ (t.channel c).itemClass = e.cls.item
          ∧ (t.channel c).playhead = .clip ⟨e.id, g, 0, none, true, true⟩ ∧ (t.channel c).output = .silence
          ∧ (∀ x ∈ t.queue.entries, x.id = e.id → ∀ o ∈ x.obligations, o.channel = c → o.state = .heard)
          ∧ ∀ p, (s.port p).prstHeld = false → (t.port p).notices &&& 0x0800#16 = 0x0800#16)

/-- Channel `c` is QUIET, with nothing on it and nothing saved (R69, R89). -/
abbrev Claims.quietOn (t : State) (c : ChannelNo) : Prop :=
  (t.channel c).playState = .quiet ∧ (t.channel c).itemClass = .none ∧ (t.channel c).playhead = .none
    ∧ (t.channel c).stack = [] ∧ (t.channel c).output = .silence

/-- What the entries owe channel `c` has become `f` of what they owed; an entry that still owes it an unsettled
obligation is still there (R101, R120). -/
abbrev Claims.owedOn (s t : State) (c : ChannelNo) (f : Entry → Obligation → Obligation) : Prop :=
  (∀ x ∈ t.queue.entries, ∃ e ∈ s.queue.entries, x.id = e.id
    ∧ x.obligations.filter (fun o => o.channel = c) = (e.obligations.filter fun o => o.channel = c).map (f e))
    ∧ ∀ e ∈ s.queue.entries, ∀ o ∈ e.obligations, o.channel = c →
      (f e o).state = .opened ∨ (f e o).state = .playing ∨ (f e o).state = .cut → ∃ x ∈ t.queue.entries, x.id = e.id

/-- A pending action is applied at the boundary in QUIET, COMMENTARY and HOLD. A START begins the chain of its group in
place of whatever the channel played: COMMENTARY, at block 0 with its record requested and silence out, or HOLD with the
hold advance counted down once where the offer names a STANDARD entry; a group not below the group count gives a
CHAIN_ERROR. A STOP ends the commentary with no context saved: the channel goes QUIET, or begins the entry its offer
names (R51, R80, R81, R84, R89). MODEL'S CHOICE: a chain that ends with its first step leaves the channel QUIET at the
same boundary (log entry 13), and a hold is counted at the boundary at which it begins (log entry 14). -/
def Obligations.StartAndStopAtABoundary : Prop :=
  ∀ (s : State) (c : ChannelNo), Claims.boundaryOn s c →
    let ch := s.channel c
    (ch.playState = .quiet ∨ ch.playState = .commentary ∨ ch.playState = .hold) →
    ∃ t, exec .blockBoundary s = .next t
      ∧ (∀ g time : Nat, ch.action = .start g time → 1 ≤ s.engine.chainLimit →
        (∀ o ∈ ch.offer, o.cls = .standard ∧ 0 < s.engine.holdAdvance) →
        (t.channel c).action = .none ∧ (t.channel c).stack = [] ∧ (t.channel c).output = .silence
          ∧ (g < s.reader.groupCount →
            (t.channel c).playhead = .chain ⟨g, 0, 1, g, .awaiting, false⟩ ∧ (t.channel c).fetch = .pending g
              ∧ (t.channel c).itemClass = .commentary
              ∧ (ch.offer = none → (t.channel c).playState = .commentary ∧ (t.channel c).hold = 0)
              ∧ (ch.offer.isSome → (t.channel c).playState = .hold ∧ (t.channel c).hold = s.engine.holdAdvance - 1))
          ∧ (s.reader.groupCount ≤ g → ch.offer = none → Claims.quietOn t c ∧ Claims.noticed s t 0x0800#16))
      ∧ (ch.action = .stop → ch.offer = none → Claims.quietOn t c ∧ (t.channel c).action = .none)
      ∧ (ch.action = .stop → ∀ e ∈ s.queue.entries, ch.offer = some ⟨e.id, e.cls⟩ → Claims.mayBegin s c e →
        Claims.entryBegun s t c e ∧ (t.channel c).action = .none ∧ (t.channel c).stack = [])

/-- An item ends at the boundary: a chain that has ended, a clip that has finished, an item the queue has stopped. With
nothing saved and no offer the channel goes QUIET and its directory request goes. A finished clip that has not been
reported is reported END, and its PLAYING obligation is HEARD or UNHEARD by listened-at-start; where every other
obligation of the entry is settled, the entry leaves and ANN_END is raised. An ended chain, a clip reported already and
a stopped item report nothing (R75, R79, R88, R89, R101, R102, R120). -/
def Obligations.AnItemEndsAtABoundary : Prop :=
  ∀ (s : State) (c : ChannelNo), Claims.boundaryOn s c → (s.channel c).offer = none → (s.channel c).stack = [] →
    let ch := s.channel c
    let ended (f : Entry → Obligation → Obligation) (more : State → Prop) : Prop :=
      ∃ t, exec .blockBoundary s = .next t ∧ Claims.quietOn t c ∧ (t.channel c).fetch = .none ∧ (t.channel c).hold = 0
        ∧ Claims.owedOn s t c f ∧ more t
    (∀ k : Chain, ch.playhead = .chain k → k.phase = .ended → ch.action = .none → ended (fun _ o => o) fun _ => True)
    ∧ (∀ id : Nat, ch.playhead = .mic id true → ended (fun _ o => o) fun _ => True)
    ∧ (∀ cl : Clip, ch.playhead = .clip cl → cl.finished = true → cl.reported = true →
      ended (fun _ o => o) fun _ => True)
    ∧ (∀ cl : Clip, ch.playhead = .clip cl → cl.finished = true → cl.reported = false →
      ended
        (fun e o =>
          if e.id = cl.id ∧ o.state = .playing then
            { o with state := if o.listenedAtStart = some true then .heard else .unheard }
          else o)
        fun t => ∀ e ∈ s.queue.entries, e.id = cl.id → (∃ o ∈ e.obligations, o.channel = c ∧ o.state = .playing) →
          (∀ o ∈ e.obligations, o.channel ≠ c → o.state = .heard ∨ o.state = .unheard ∨ o.state = .dropped) →
          (∀ x ∈ t.queue.entries, x.id ≠ e.id) ∧ Claims.noticed s t 0x0080#16)

/-- The count of groups walked that a cut may save for a chain (R53, R87; log entry 8). -/
abbrev Claims.savedCount (k : Chain) (n : Nat) : Prop :=
  match k.phase with
  | .awaiting => n = k.walked ∨ n = k.walked - 1
  | .playing _ _ _ => n = k.walked ∨ n = k.walked - 1
  | .between _ => n = k.walked
  | .ended => False

/-- A cut, with an entry that may begin in the offer. Commentary is cut by an EXPRESS or LIVE entry, and in HOLD by a
STANDARD one at the end boundary of the group that was playing, or once the hold record is 0 and the group is not
UNBROKEN; its context, with the playhead's group and offset, the chain's start and the boundary's time, or the time of
the cue whose START began the chain at this boundary, goes on the stack, and the entry begins. Until then HOLD goes on
and its record counts down. A STANDARD clip is cut by EXPRESS and LIVE, an EXPRESS one by LIVE: its announcement context
goes on top, its obligation is CUT, and a third context pushes the oldest out with CONTEXT_LOST, its CUT obligation
DROPPED for LOSS (R80, R85 to R87, R101). MODEL'S CHOICE: whether the count of groups walked that is saved takes in the
group itself is left free (log entry 8), the offer's cut is judged first (log entry 14), and the boundary's time is the
model's clock (log entry 2). -/
def Obligations.CutsPushTheirContext : Prop :=
  ∀ (s : State) (c : ChannelNo) (e : Entry), Claims.boundaryOn s c → e ∈ s.queue.entries →
    (s.channel c).offer = some ⟨e.id, e.cls⟩ → Claims.mayBegin s c e →
    let ch := s.channel c
    ∃ t, exec .blockBoundary s = .next t
      ∧ (∀ k : Chain, ch.playhead = .chain k → ch.action = .none → k.phase ≠ .ended →
        let due := e.cls ≠ .standard ∨ k.atEnd = true ∨ (ch.hold = 0 ∧ Claims.unbroken k = false)
        (due → Claims.entryBegun s t c e ∧ (t.channel c).hold = 0
          ∧ ∃ n, Claims.savedCount k n
            ∧ (t.channel c).stack = [.commentary ⟨k.group, k.offset, n, k.start, max s.now s.engine.nextBoundary⟩])
        ∧ (¬due → (t.channel c).playState = .hold ∧ (t.channel c).hold = ch.hold - 1
          ∧ (t.channel c).itemClass = .commentary ∧ (t.channel c).stack = []))
      ∧ (∀ g time : Nat, ch.action = .start g time → ch.playState = .quiet ∨ ch.playState = .commentary ∨ ch.playState = .hold →
        1 ≤ s.engine.chainLimit → g < s.reader.groupCount → e.cls ≠ .standard →
        Claims.entryBegun s t c e ∧ (t.channel c).action = .none ∧ (t.channel c).hold = 0
          ∧ ∃ n, n ≤ 1 ∧ (t.channel c).stack = [.commentary ⟨g, 0, n, g, time⟩])
      ∧ (∀ (cl : Clip) (cls : AnnClass), ch.playhead = .clip cl → cl.finished = false → ch.itemClass = cls.item →
        (∃ x ∈ s.queue.entries, x.id = cl.id ∧ ∃ o ∈ x.obligations, o.channel = c ∧ o.state = .playing) →
        cls = .standard ∧ e.cls ≠ .standard ∨ cls = .express ∧ e.cls = .live →
        Claims.entryBegun s t c e
          ∧ (t.channel c).stack = .announcement cl.id cls :: ch.stack.take 1
          ∧ Claims.owedOn s t c (fun x o =>
            if o.state = .playing ∧ x.id = cl.id then { o with state := .cut }
            else if o.state = .opened ∧ x.id = e.id then
              { o with state := .playing, listenedAtStart := some ch.listened }
            else if o.state = .cut ∧ (ch.stack.drop 1).any (Context.isEntry x.id) = true then
              { o with state := .dropped, cause := some .loss }
            else o)
          ∧ (ch.stack.length = 2 → Claims.noticed s t 0x0200#16))

/-- The channel's item is over, and no END is owed (R79, R88). -/
abbrev Claims.itemOver (ch : ChannelRec) : Prop :=
  (∃ id, ch.playhead = .mic id true) ∨ ∃ cl : Clip, ch.playhead = .clip cl ∧ cl.finished = true ∧ cl.reported = true

/-- Turns at a boundary. On a channel that is not LISTENED, a STANDARD or EXPRESS turn is UNHEARD: on a QUIET one every
LAUNCHED entry that owes it a start, one after another, and the channel stays QUIET; on one with a commentary or
STANDARD item every such EXPRESS entry, and the item goes on. When an item is over, an announcement context that no
offered class outranks is popped: an entry still CUT restarts from block 0 with its listened-at-start as it was, and one
that is not is passed over. A commentary context within the resume window is taken up again at its group and offset with
one group more walked, or with a CHAIN_ERROR past the chain limit; beyond the window it is discarded. An offered entry
comes before a commentary context, which stays (R86, R89 to R92, R101, R105). MODEL'S CHOICE: a resume whose chain step
fails ends at the next boundary (log entry 13), and the boundary's time is the model's clock (log entry 2). -/
def Obligations.TurnsRestartsAndResumes : Prop :=
  ∀ (s : State) (c : ChannelNo), Claims.boundaryOn s c →
    let ch := s.channel c
    let unheard (x : Entry) (o : Obligation) : Obligation :=
      if x.launched = true ∧ o.state = .opened then { o with state := .unheard } else o
    ∃ t, exec .blockBoundary s = .next t
      ∧ (ch.listened = false → ch.playState = .quiet → ch.action = .none → (∀ o ∈ ch.offer, o.cls ≠ .live) →
        Claims.quietOn t c ∧ (t.channel c).offer = none ∧ Claims.owedOn s t c unheard)
      ∧ (ch.listened = false → (∀ o ∈ ch.offer, o.cls = .express) → ch.action = .none →
        ((∃ k : Chain, ch.playhead = .chain k ∧ k.phase ≠ .ended) ∧ ch.playState = .commentary
            ∧ (∀ x ∈ s.queue.entries, x.cls = .standard → x.launched = true →
              ∀ o ∈ x.obligations, o.channel = c → o.state ≠ .opened)
          ∨ (∃ cl : Clip, ch.playhead = .clip cl ∧ cl.finished = false) ∧ ch.itemClass = .standard) →
        (t.channel c).playState = ch.playState ∧ (t.channel c).itemClass = ch.itemClass ∧ (t.channel c).stack = ch.stack
          ∧ Claims.owedOn s t c (fun x o => if x.cls = .express then unheard x o else o))
      ∧ (Claims.itemOver ch → ∀ (id : Nat) (cls : AnnClass) (rest : List Context), ch.stack = .announcement id cls :: rest →
        (∀ o ∈ ch.offer, o.cls.rank ≤ cls.rank) →
        (∀ e ∈ s.queue.entries, e.id = id → (∃ o ∈ e.obligations, o.channel = c ∧ o.state = .cut) →
          ∀ g : Nat, e.content = .clip g → g < s.reader.groupCount →
          Claims.clipOn t c e g ∧ (t.channel c).stack = rest
            ∧ Claims.owedOn s t c (fun x o => if x.id = id ∧ o.state = .cut then { o with state := .playing } else o))
        ∧ ((∀ e ∈ s.queue.entries, e.id = id → ∀ o ∈ e.obligations, o.channel = c → o.state ≠ .cut) → rest = [] →
          ch.offer = none → Claims.quietOn t c ∧ Claims.owedOn s t c fun _ o => o))
      ∧ (Claims.itemOver ch → ∀ k : CommentaryContext, ch.stack = [.commentary k] →
        let waited := max s.now s.engine.nextBoundary - k.cutTime
        (ch.offer = none → waited ≤ s.engine.resumeWindow * 1000000 →
          (t.channel c).playState = .commentary ∧ (t.channel c).itemClass = .commentary ∧ (t.channel c).stack = []
            ∧ (t.channel c).output = .silence
            ∧ (k.walked + 1 ≤ s.engine.chainLimit → k.group < s.reader.groupCount →
              (t.channel c).playhead = .chain ⟨k.group, k.offset, k.walked + 1, k.start, .awaiting, false⟩
                ∧ (t.channel c).fetch = .pending k.group)
            ∧ (s.engine.chainLimit < k.walked + 1 →
              (∃ x : Chain, (t.channel c).playhead = .chain x ∧ x.phase = .ended) ∧ Claims.noticed s t 0x0800#16))
        ∧ (ch.offer = none → s.engine.resumeWindow * 1000000 < waited → Claims.quietOn t c)
        ∧ (∀ e ∈ s.queue.entries, ch.offer = some ⟨e.id, e.cls⟩ → Claims.mayBegin s c e →
          Claims.entryBegun s t c e ∧ (t.channel c).stack = [.commentary k]))

/-- DECK with a channel 0 to 11 or OFF and a volume 0 to 15 sets both, hands the roster the deck channel, and makes
every channel's LISTENED follow its census and the new deck channel, in the roster and the channel engine; any other
argument refuses it BAD_ARGUMENT (R94, R158, R159). -/
def Obligations.DeckSetsChannelAndVolume : Prop :=
  ∀ (s : State) (a : Args), s.inHand .crew .deck = some a →
    (11 < a.a0.toNat ∧ a.a0 ≠ 0xFFFF#16 ∨ 15 < a.a1.toNat → exec .deck s = .next (s.answer .crew .badArgument 0))
    ∧ (∀ deck : Option ChannelNo, (match deck with
          | some c => a.a0.toNat = c.val
          | none => a.a0 = 0xFFFF#16) → a.a1.toNat ≤ 15 → Safety.Census s →
        ∃ t : State, exec .deck s = .next (t.answer .crew .ok 0)
          ∧ t.engine.deckChannel = deck ∧ t.engine.deckVolume = a.a1.toNat ∧ t.roster.deck = deck
          ∧ t.engine.deckOutChannel = s.engine.deckOutChannel ∧ t.engine.deckOutVolume = s.engine.deckOutVolume
          ∧ (∀ c : ChannelNo, (t.channel c).listened = (decide (0 < s.roster.census[c]) || decide (deck = some c))
            ∧ t.roster.listened[c] = (t.channel c).listened
            ∧ (t.channel c).playState = (s.channel c).playState ∧ (t.channel c).playhead = (s.channel c).playhead)
          ∧ { t.roster with deck := s.roster.deck, listened := s.roster.listened } = s.roster
          ∧ { t with engine := s.engine, roster := s.roster } = s)

/-! ## Announcements and live microphone (05_announcements_and_live_microphone.md) -/

/-- `id` is the next free id after the last assigned one: it is found counting upward, passing from 255 to 1, and
every id counted before it is held by an entry (R98). -/
abbrev Claims.isNextId (q : AnnouncementQueue) (id : Nat) : Prop :=
  1 ≤ id ∧ id ≤ 255 ∧ (∀ e ∈ q.entries, e.id ≠ id)
    ∧ ∃ n, id = (q.lastId + n) % 255 + 1 ∧ ∀ m < n, ∃ e ∈ q.entries, e.id = (q.lastId + m) % 255 + 1

/-- The target set of a language set: its enabled channels, in channel number order, each with an OPEN obligation
(R100). -/
def Claims.obligationsFor (s : State) (languages : Word) : List Obligation :=
  ((List.finRange 12).filter fun c => languages.getLsbD c.val && (s.channel c).enabled).map
    fun c => ⟨c, .opened, none, none⟩

/-- Every enabled channel's offer names the first LAUNCHED entry in queue order with an OPEN obligation for it (R104).
-/
abbrev Claims.offersNamed (t : State) : Prop :=
  ∀ c : ChannelNo, (t.channel c).enabled = true → (t.channel c).offer =
    ((t.queue.entries.filter fun e => e.launched && e.obligations.any fun o => o.channel = c && o.state = .opened).head?).map
      fun e => ⟨e.id, e.cls⟩

/-- The channels are as they were but for their offers, and for HOLD and its record, which follow the offers. -/
abbrev Claims.onlyOffersMoved (s t : State) : Prop :=
  (∀ c : ChannelNo,
    { t.channel c with offer := (s.channel c).offer, playState := (s.channel c).playState, hold := (s.channel c).hold }
      = s.channel c)
    ∧ { t.engine with channels := s.engine.channels } = s.engine

/-- How ANNOUNCE is judged, in the order of R106: the result of the first test that fails. -/
def Claims.announceRefusal (s : State) (p : Port) (a : Args) : Option ResultCode :=
  if 2 ≤ a.a1.toNat / 16384 then some .badArgument
  else if p = .route ∧ a.a1.toNat / 16384 = 1 then some .noRight
  else if 1023 < a.a0.toNat ∨ a.a1.toNat % 4096 = 0 ∨ (a.a1.getLsbD 12 = true ∧ a.a1.toNat / 16384 = 0)
      ∨ (4095 < a.a2.toNat ∧ a.a2.toNat ≠ 65535) ∨ a.a3.toNat = 0 ∨ (if p = .crew then 600 else 4095) < a.a3.toNat then
    some .badArgument
  else if s.reader.catalogue ≠ .ready then some .notReady
  else if Claims.obligationsFor s a.a1 = [] then some .badArgument
  else if 16 ≤ s.queue.entries.length then some .queueFull
  else none

/-- The entry an accepted ANNOUNCE makes, with this id: WAITING for its launch distance, but LAUNCHED where it has none
or one of 0 (R97, R107, R109, R111). -/
def Claims.announced (s : State) (p : Port) (a : Args) (id : Nat) : Entry where
  id := id
  cls := if a.a1.toNat / 16384 = 1 then .express else .standard
  source := if p = .crew then .crew else .route
  content := .clip a.a0.toNat
  flash := a.a1.getLsbD 13
  safety := a.a1.getLsbD 12
  launchTrip := if a.a2.toNat = 65535 then none else some (min (s.route.trip + a.a2.toNat) 4294967295)
  expiry :=
    if p = .crew then .seconds a.a3.toNat
    else if a.a2.toNat = 65535 then .trip (min (s.route.trip + a.a3.toNat) 4294967295)
    else .trip (min (s.route.trip + a.a2.toNat + a.a3.toNat) 4294967295)
  launched := a.a2.toNat = 65535 ∨ a.a2.toNat = 0
  expiryTaken := none
  timer := if p = .crew ∧ (a.a2.toNat = 65535 ∨ a.a2.toNat = 0) then some (s.now + a.a3.toNat * 1000000) else none
  obligations := Claims.obligationsFor s a.a1

/-- A refused ANNOUNCE answers the first test of R106 that fails and changes no queue state. An accepted ANNOUNCE
makes an entry with the next free id, after every entry of its own and higher class and before every entry of lower
class, launches it at once for a launch distance of 0, names the offers and ends with OK and the id; everything else
stays (R97 to R100, R104, R107, R109). -/
def Obligations.AnnounceIsRefusedInOrderOrQueued : Prop :=
  (∀ (s : State) (p : Port) (a : Args) (r : ResultCode), s.inHand p .announce = some a →
    Claims.announceRefusal s p a = some r → exec (.announce p) s = .next (s.answer p r 0))
    ∧ (∀ (s : State) (p : Port) (a : Args), s.inHand p .announce = some a → Claims.announceRefusal s p a = none →
    Safety.Queue s → Safety.Judged s → s.route.trip < 4294967295 →
    ∃ (id : Nat) (t : State), Claims.isNextId s.queue id
      ∧ exec (.announce p) s = .next (t.answer p .ok (BitVec.ofNat 16 id))
      ∧ t.queue =
          { s.queue with
            lastId := id
            entries := (s.queue.entries.filter fun x => (Claims.announced s p a id).cls.rank ≤ x.cls.rank)
              ++ [Claims.announced s p a id]
              ++ s.queue.entries.filter fun x => x.cls.rank < (Claims.announced s p a id).cls.rank }
      ∧ Claims.offersNamed t ∧ Claims.onlyOffersMoved s t
      ∧ { t with queue := s.queue, engine := s.engine } = s)

/-- What an entry's end does beside removing it: LAST_ANNOUNCE and the end count move, ANN_END is raised, and the LIVE
entry's timer stops (R116, R120, R121). -/
abbrev Claims.entryEnded (s t : State) (e : Entry) (outcome : EndOutcome) : Prop :=
  t.queue.entries = s.queue.entries.filter (fun x => x.id ≠ e.id)
    ∧ t.queue.lastEndedId = e.id ∧ t.queue.lastOutcome = outcome ∧ t.queue.endCount = (s.queue.endCount + 1) % 256
    ∧ t.queue.liveTimer = (if e.cls = .live then none else s.queue.liveTimer)
    ∧ t.queue.lastId = s.queue.lastId ∧ t.queue.liveLimit = s.queue.liveLimit
    ∧ (∀ p, (s.port p).prstHeld = false → (t.port p).notices &&& 0x0080#16 = 0x0080#16)
    ∧ (let k := s.ports.counters
      t.ports.counters =
        match outcome with
        | .expired => { k with expired := min (k.expired + 1) 65535 }
        | .unheard => { k with unheard := min (k.unheard + 1) 65535 }
        | .cancelled => { k with cancelled := min (k.cancelled + 1) 65535 }
        | .played => k
        | .none => k)

/-- A playhead whose item the queue has stopped: no further block of it is taken and no END is owed (R79, R88). -/
def Claims.stopped : Playhead → Playhead
  | .clip cl => .clip { cl with finished := true, reported := true }
  | .mic id _ => .mic id true
  | ph => ph

/-- CANCEL with an id of 0 or above 255 is refused BAD_ARGUMENT, and with an id that no entry holds NO_SUCH_ENTRY.
Otherwise the entry ends CANCELLED: the item of every channel on which it is PLAYING is stopped, its contexts leave
every resume stack, no capture is made, the offers are named anew and the request ends with OK (R92, R112, R113,
R121). -/
def Obligations.CancelEndsTheEntry : Prop :=
  ∀ (s : State) (a : Args), s.inHand .crew .cancel = some a →
    (a.a0.toNat = 0 ∨ 255 < a.a0.toNat → exec .cancel s = .next (s.answer .crew .badArgument 0))
    ∧ (1 ≤ a.a0.toNat → a.a0.toNat ≤ 255 → (∀ e ∈ s.queue.entries, e.id ≠ a.a0.toNat) →
      exec .cancel s = .next (s.answer .crew .noSuchEntry 0))
    ∧ (Safety.Queue s → ∀ e ∈ s.queue.entries, e.id = a.a0.toNat →
      ∃ t : State, exec .cancel s = .next (t.answer .crew .ok 0)
        ∧ Claims.entryEnded s t e .cancelled ∧ t.queue.capture = s.queue.capture ∧ Claims.offersNamed t
        ∧ (∀ c : ChannelNo,
          (t.channel c).stack = (s.channel c).stack.filter (fun k => match k with
            | .announcement id _ => id ≠ e.id
            | .commentary _ => true)
          ∧ (t.channel c).playhead =
            (if (⟨c, .playing⟩ : ChannelNo × ObState) ∈ e.obligations.map (fun o => (o.channel, o.state)) then
              Claims.stopped (s.channel c).playhead else (s.channel c).playhead))
        ∧ { t with queue := s.queue, engine := s.engine, ports := s.ports } = s)

/-- The LIVE entry LIVE_ON makes, with this id (R97, R114). -/
def Claims.livePage (s : State) (a : Args) (id : Nat) : Entry where
  id := id
  cls := .live
  source := .crew
  content := .mic
  flash := a.a1.getLsbD 13
  safety := false
  launchTrip := none
  expiry := .none
  launched := true
  expiryTaken := none
  timer := none
  obligations := Claims.obligationsFor s a.a1

/-- LIVE_ON, judged in the order of R114: NO_RIGHT while CREW is SILENT, BAD_ARGUMENT for an empty language set or
SAFETY, LIVE_ACTIVE, BAD_ARGUMENT for an empty target set, QUEUE_FULL, whatever the catalogue. Otherwise the LIVE
entry is made at the head of the queue, the live timer starts with the live limit and the offers are named (R98 to
R100, R104, R114). -/
def Obligations.LiveOnStartsAPage : Prop :=
  ∀ (s : State) (a : Args), s.inHand .crew .liveOn = some a →
    let refusal : Option ResultCode :=
      if (s.port .crew).silent then some .noRight
      else if a.a1.toNat % 4096 = 0 ∨ a.a1.getLsbD 12 = true then some .badArgument
      else if ∃ e ∈ s.queue.entries, e.cls = .live then some .liveActive
      else if Claims.obligationsFor s a.a1 = [] then some .badArgument
      else if 16 ≤ s.queue.entries.length then some .queueFull
      else none
    (∀ r, refusal = some r → exec .liveOn s = .next (s.answer .crew r 0))
    ∧ (refusal = none → Safety.Queue s →
      ∃ (id : Nat) (t : State), Claims.isNextId s.queue id
        ∧ exec .liveOn s = .next (t.answer .crew .ok (BitVec.ofNat 16 id))
        ∧ t.queue =
            { s.queue with
              lastId := id
              liveTimer := some (s.now + s.queue.liveLimit * 1000000)
              entries := Claims.livePage s a id :: s.queue.entries }
        ∧ Claims.offersNamed t ∧ Claims.onlyOffersMoved s t
        ∧ { t with queue := s.queue, engine := s.engine } = s)

/-- The page has ended by the steps of R116, PLAYED when an obligation is HEARD or was PLAYING with listened-at-start
set, and UNHEARD otherwise. -/
abbrev Claims.pageEnded (s t : State) (e : Entry) : Prop :=
  Claims.entryEnded s t e
      (if e.obligations.any fun o => o.state = .heard || (o.state = .playing && o.listenedAtStart = some true) then .played
        else .unheard)
    ∧ t.queue.capture = s.queue.capture ∧ Claims.offersNamed t
    ∧ ∀ c : ChannelNo,
      (t.channel c).stack = (s.channel c).stack
        ∧ (t.channel c).playhead =
          (if (⟨c, .playing⟩ : ChannelNo × ObState) ∈ e.obligations.map (fun o => (o.channel, o.state)) then
            Claims.stopped (s.channel c).playhead else (s.channel c).playhead)

/-- LIVE_OFF with no LIVE entry is refused NO_LIVE; otherwise it ends the page and ends with OK. The live timer's expiry
ends the page in the same way and answers no request. An obligation of the LIVE entry is never dropped by an expiry,
which it does not have (R115 to R117). MODEL'S CHOICE: the clock stands at the timer's moment at least (log entry 2),
and a stopped timer does not expire (log entry 3). -/
def Obligations.APageEndsByLiveOffOrItsTimer : Prop :=
  (∀ (s : State) (a : Args), s.inHand .crew .liveOff = some a →
    ((∀ e ∈ s.queue.entries, e.cls ≠ .live) → exec .liveOff s = .next (s.answer .crew .noLive 0))
    ∧ (Safety.Queue s → ∀ e ∈ s.queue.entries, e.cls = .live → (∀ o ∈ e.obligations, o.cause ≠ some .expiry) →
      ∃ t : State, exec .liveOff s = .next (t.answer .crew .ok 0) ∧ Claims.pageEnded s t e
        ∧ { t with queue := s.queue, engine := s.engine, ports := s.ports } = s))
    ∧ (∀ s : State, s.queue.liveTimer = none → exec .liveTimerExpiry s = .next s)
    ∧ ∀ (s : State) (at' : Nat), s.queue.liveTimer = some at' → Safety.Queue s →
      ∀ e ∈ s.queue.entries, e.cls = .live → (∀ o ∈ e.obligations, o.cause ≠ some .expiry) →
      ∃ t : State, exec .liveTimerExpiry s = .next t ∧ Claims.pageEnded s t e
        ∧ { t with queue := s.queue, engine := s.engine, ports := s.ports, now := s.now } = s ∧ t.now = max s.now at'

/-- An entry whose expiry is taken at this lap and distance: the flag with them, no timer, and its OPEN and CUT
obligations DROPPED with cause EXPIRY (R110). -/
def Claims.expired (e : Entry) (lap distance : Nat) : Entry :=
  { e with
    expiryTaken := some (lap, distance)
    timer := none
    obligations := e.obligations.map fun o =>
      if o.state = .opened ∨ o.state = .cut then { o with state := .dropped, cause := some .expiry } else o }

/-- The outcome of an entry that ends with no obligation unsettled (R121). -/
def Claims.outcome (e : Entry) : EndOutcome :=
  if ∃ o ∈ e.obligations, o.state = .heard then .played
  else if ∃ o ∈ e.obligations, o.state = .dropped ∧ o.cause = some .expiry then .expired
  else .unheard

/-- The capture record of an entry that ends EXPIRED with its expiry taken at this lap and distance (R123). -/
def Claims.capture (e : Entry) (lap distance : Nat) : Capture :=
  ⟨e.id, match e.content with
    | .clip g => g
    | .mic => 0, e.source, lap, distance⟩

/-- Entry `e` has a distance expiry that the trip distance has reached (R110). -/
def Claims.reached (e : Entry) (trip : Nat) : Bool :=
  match e.expiry with
  | .trip x => x ≤ trip
  | .seconds _ => false
  | .none => false

/-- What the judgement of a trip distance makes of an entry: an expiry reached and not yet taken is taken; a WAITING
entry whose launch trip is reached, and no expiry, is launched, a CREW entry's timer starting; any other entry stays
(R109 to R111). -/
def Claims.judged (s : State) (trip lap distance : Nat) (e : Entry) : Entry :=
  if Claims.reached e trip = true ∧ e.expiryTaken = none then Claims.expired e lap distance
  else if Claims.reached e trip = false ∧ e.launched = false ∧ ∃ l ∈ e.launchTrip, l ≤ trip then
    { e with
      launched := true
      timer := match e.expiry with
        | .seconds n => some (s.now + n * 1000000)
        | .trip _ => none
        | .none => none }
  else e

/-- The queue has judged its entries by a trip distance, at this lap and distance: each is as judged, those whose expiry
was taken with none of their obligations PLAYING have left one after another in queue order, with what an end does, and
the offers are named. FLASH and SAFETY do not move, since no obligation starts or stops PLAYING (R104, R109 to R111,
R120, R121, R123, R125). -/
abbrev Claims.tripTaken (s t : State) (trip lap distance : Nat) : Prop :=
  let leaves (e : Entry) : Bool :=
    Claims.reached e trip && e.expiryTaken.isNone && e.obligations.all fun o => o.state ≠ .playing
  let ended := (s.queue.entries.filter leaves).map fun e => Claims.expired e lap distance
  let lapsed := ended.filter fun e => Claims.outcome e = .expired
  t.queue =
      { s.queue with
        entries := (s.queue.entries.filter fun e => !leaves e).map (Claims.judged s trip lap distance)
        liveTimer := if ended.any fun e => e.cls = .live then none else s.queue.liveTimer
        lastEndedId := (ended.getLast?.map (·.id)).getD s.queue.lastEndedId
        lastOutcome := (ended.getLast?.map Claims.outcome).getD s.queue.lastOutcome
        endCount := if ended = [] then s.queue.endCount else (s.queue.endCount + ended.length) % 256
        capture := match s.queue.capture with
          | some x => some x
          | none => lapsed.head?.map fun e => Claims.capture e lap distance }
    ∧ (ended = [] → t.ports = s.ports)
    ∧ (ended ≠ [] → Claims.noticed s t 0x0080#16)
    ∧ (∀ p, { t.port p with notices := (s.port p).notices } = s.port p)
    ∧ (lapsed ≠ [] → t.ports.counters.expired = min (s.ports.counters.expired + lapsed.length) 65535)
    ∧ Claims.offersNamed t ∧ Claims.onlyOffersMoved s t

/-- No cue of the active bank from index `i` on lies at distance `q` or before it. -/
abbrev Claims.noCueOwed (s : State) (i q : Nat) : Prop :=
  ∀ x : CueSlot, i < s.script.activeBank.cueCount → s.script.activeBank.slots[i]? = some x → q < x.w0.toNat

/-- A CREW entry whose expiry timer expires has its expiry taken, with the lap and distance of that moment. With a
PLAYING obligation left it stays in the queue; otherwise it ends, PLAYED if an obligation is HEARD and EXPIRED if one was
dropped by the expiry, an EXPIRED entry filling an empty capture record. An odometer advance, and a FIX that is a
catch-up, have the queue launch and expire by the new trip distance every entry that it reaches, whatever lap and
position it stands at: here with no cue and no switch on the way, so that nothing else of the queue moves (R5, R6, R10,
R109 to R111, R120, R121, R123). MODEL'S CHOICE: the clock stands at the timer's moment at least (log entry 2), an entry
without a running timer is not touched (log entry 3), an id that no entry has changes nothing (log entry 30), an advance
is judged at the metre it reaches and a catch-up where it starts (log entry 24), and several expiries are taken in queue
order (log entry 35). -/
def Obligations.TimersAndTripsLaunchAndExpire : Prop :=
  (∀ (s : State) (id : Nat), (∀ e ∈ s.queue.entries, e.id = id → e.timer = none) →
    exec (.entryExpiryTimer id) s = .next s)
    ∧ (∀ (s : State) (e : Entry) (at' : Nat), Safety.Queue s → e ∈ s.queue.entries → e.timer = some at' →
      let taken := Claims.expired e s.route.lap s.route.distance
      ∃ t, exec (.entryExpiryTimer e.id) s = .next t
        ∧ t.now = max s.now at' ∧ Claims.offersNamed t
        ∧ ((∃ o ∈ e.obligations, o.state = .playing) →
          t.queue.entries = s.queue.entries.map (fun x => if x.id = e.id then taken else x)
            ∧ t.queue.endCount = s.queue.endCount ∧ t.ports = s.ports)
        ∧ ((∀ o ∈ e.obligations, o.state ≠ .playing) →
          (∃ o ∈ e.obligations, o.state = .opened ∨ o.state = .cut) →
          Claims.entryEnded s t e (Claims.outcome taken)
            ∧ t.queue.capture =
              (if Claims.outcome taken = .expired ∧ s.queue.capture = none then
                some (Claims.capture e s.route.lap s.route.distance)
              else s.queue.capture))
        ∧ { t with queue := s.queue, engine := s.engine, ports := s.ports, now := s.now } = s)
    ∧ (∀ s : State, Safety.Queue s → Safety.Offers s → Safety.Hold s → Safety.Signals s →
      s.resetHeld = false → s.route.ratio ≤ s.route.prescaler + 1 → s.route.lap < 16 → 1 ≤ s.route.loopLength →
      s.route.trip < 4294967295 → s.script.pendingSwitch = none →
      let r := Claims.metreOn s.route
      let i := if r.distance = 0 then 0 else s.script.pointer
      Claims.noCueOwed s i r.distance →
      ∃ t, exec .odometerPulse s = .next t ∧ Claims.tripTaken s t (s.route.trip + 1) r.lap r.distance
        ∧ { t with queue := s.queue, engine := s.engine, ports := s.ports } =
          { s with
            route := { r with prescaler := 0, trip := s.route.trip + 1, windowCount := s.route.windowCount + 1 }
            script := { s.script with pointer := i } })
    ∧ ∀ (s : State) (a : Args), Safety.Queue s → Safety.Offers s → Safety.Hold s → Safety.Signals s →
      s.inHand .route .fix = some a → (a.a1.toNat ≤ 15 ∨ a.a1 = 0xFFFF#16) → a.a0.toNat < s.route.loopLength →
      s.route.distance < a.a0.toNat → a.a0.toNat - s.route.distance ≤ s.route.jumpWindow →
      s.route.trip < 4294967295 → s.script.pendingSwitch = none → Claims.noCueOwed s s.script.pointer a.a0.toNat →
      let trip := min (s.route.trip + (a.a0.toNat - s.route.distance)) 4294967295
      let noticed := if s.route.stale = true then s.raise .routeStale else s
      ∃ t, exec .fix s = .next (t.answer .route .ok 0)
        ∧ Claims.tripTaken noticed t trip s.route.lap s.route.distance
        ∧ { t with queue := s.queue, engine := s.engine, ports := noticed.ports } =
          { noticed with
            route :=
              { s.route with
                distance := a.a0.toNat
                trip := trip
                prescaler := 0
                fixTimer := some (s.now + s.route.fixTimeout * 1000000)
                stale := false
                lap := if a.a1 = 0xFFFF#16 then s.route.lap else a.a1.toNat } }

/-- The record of an announcement's clip. A playable entry is played from the playhead's offset; where that is not less
than its length the clip is finished at once. An absent or invalid entry, the latter with a CHAIN_ERROR, ends the item
at once: the END report is made now, unless none is owed, and settles the PLAYING obligation from listened-at-start;
with another obligation unsettled the entry stays, and otherwise it ends PLAYED, EXPIRED or UNHEARD. The channel's own
item ends at the next boundary (R49, R54, R63, R79, R101, R102, R120, R121). MODEL'S CHOICE: the clock stands at the
read's end at least (log entry 2). -/
def Obligations.AClipRecordIsPlayedOrEndsTheClip : Prop :=
  ∀ (s : State) (b : Vector Byte 64) (r : Read) (c : ChannelNo) (g : Nat) (cl : Clip), s.reader.inFlight = some r →
    r.kind = .directory c → (s.channel c).fetch = .inFlight g → (s.channel c).playhead = .clip cl →
    let start := (b[4 * c.val]'(by omega)).toNat % 128 * 256 + (b[4 * c.val + 1]'(by omega)).toNat
    let length := (b[4 * c.val + 2]'(by omega)).toNat % 32 * 256 + (b[4 * c.val + 3]'(by omega)).toNat
    let playable : Prop := length ≠ 0 ∧ 129 ≤ start ∧ start + length ≤ s.reader.storeSize
    let met (u : State) : State :=
      if length ≠ 0 ∧ (start < 129 ∨ s.reader.storeSize < start + length) then Claims.chainErrored u else u
    let judged (x : Clip) : State :=
      Claims.withChannel { s with now := max s.now r.ends, reader := { s.reader with inFlight := none } } c
        { s.channel c with fetch := .none, playhead := .clip x }
    (playable →
      exec (.directoryFetchComplete b) s = .next
        (judged { cl with entry := some ⟨start, length⟩, finished := cl.finished || decide (length ≤ cl.offset) }))
    ∧ (¬playable → cl.reported = true →
      exec (.directoryFetchComplete b) s = .next (met (judged { cl with finished := true })))
    ∧ (¬playable → cl.reported = false → Safety.Queue s → ∀ e ∈ s.queue.entries, e.id = cl.id →
      (∃ o ∈ e.obligations, o.channel = c ∧ o.state = .playing) →
      let after := e.obligations.map fun o =>
        if o.channel = c then { o with state := if o.listenedAtStart = some true then ObState.heard else .unheard } else o
      let owing := ∃ o ∈ after, o.state = .opened ∨ o.state = .playing ∨ o.state = .cut
      ∃ t, exec (.directoryFetchComplete b) s = .next t
        ∧ (t.channel c).playhead = .clip { cl with finished := true, reported := true } ∧ (t.channel c).fetch = .none
        ∧ Claims.offersNamed t
        ∧ (owing → t.queue.entries = s.queue.entries.map (fun x => if x.id = e.id then { x with obligations := after } else x)
          ∧ t.queue.endCount = s.queue.endCount ∧ t.ports = (met s).ports)
        ∧ (¬owing → Claims.entryEnded (met s) t e
          (if ∃ o ∈ after, o.state = .heard then .played
            else if ∃ o ∈ after, o.state = .dropped ∧ o.cause = some .expiry then .expired
            else .unheard)))

/-! ## Seat bus and seat stations (06_seat_bus_and_seat_stations.md) -/

/-- The cursor of segment `g`, moving on from address `a`, has stopped at the next address whose station is not ABSENT
(any address in a cycle whose count is 0), or the cycle has ended and the cycle count has moved on (R131). `x` is the
segment's record otherwise. -/
abbrev Claims.cursorMovedFrom (t : State) (g : SegmentNo) (a : Nat) (x : Segment) : Prop :=
  let polled (b : Nat) : Prop := (t.station (seatAt g b)).state ≠ .absent ∨ x.cycleCount = 0
  (∀ b, a ≤ b → b < 16 → polled b → (∀ d, a ≤ d → d < b → ¬polled d) → t.segment g = { x with cursor := b })
    ∧ ((∀ b, a ≤ b → b < 16 → ¬polled b) →
      t.segment g =
        { x with cursor := 0, inCycle := false, cycleCount := if x.cycleCount = 7 then 0 else x.cycleCount + 1 })

/-- CYCLE_START begins a cycle of the segment, at address 0, where the one before has ended: no sooner than 2.0 ms
after that one began and no sooner than the gap after its last poll. In a cycle that is under way, and while RESET# is
held, it does nothing (log entry 3) (R131, R132, R147). POLL, in a cycle with no poll in flight, builds the frame of
seat 16 × segment + cursor from what stands at that moment and sends it: the reply window opens 70 µs later and closes
300 µs after that. Byte 0 names the address; the slot is MUTE for a FAULT, no language or a disabled channel and else
the channel; the volume is the effective volume; the indicator is FAULT, WITHDRAWN, LOCKED or NORMAL, the first that
applies, beside the ack toggle; the display is two spaces, "--" or the channel's label; the last byte is the check
byte (R128, R129, R132, R139, R143 to R146, R201). MODEL'S CHOICE: the clock stands at the moment of the event at least
(log entry 2), and the bits of byte 3 that no field has are 0 (log entry 37). -/
def Obligations.CyclesStartAndPollsAreBuilt : Prop :=
  (∀ (s : State) (g : SegmentNo), (s.segment g).cycleCount < 8 →
    (s.resetHeld = true ∨ (s.segment g).inCycle = true → exec (.cycleStart g) s = .next s)
    ∧ (s.resetHeld = false → (s.segment g).inCycle = false →
      ∃ t, exec (.cycleStart g) s = .next t
        ∧ t.now = max (max s.now ((s.segment g).cycleBegan + 2000)) (s.segment g).readyAt
        ∧ Claims.cursorMovedFrom t g 0 { s.segment g with inCycle := true, cycleBegan := t.now }
        ∧ (∀ h, h ≠ g → t.segment h = s.segment h)
        ∧ { t with bus := { t.bus with segments := s.bus.segments }, now := s.now } = s))
    ∧ (∀ (s : State) (g : SegmentNo), (s.segment g).cursor < 16 →
    let i := seatAt g (s.segment g).cursor
    let x := s.seat i
    let st := s.station i
    let enabled := fun c : ChannelNo => s.roster.enabled.getLsbD c.val
    (s.resetHeld = true ∨ (s.segment g).inCycle = false ∨ (s.segment g).poll.isSome → exec (.poll g) s = .next s)
    ∧ (s.resetHeld = false → (s.segment g).inCycle = true → (s.segment g).poll = none → x.effective ≤ 15 →
      ∃ (t : State) (f : Vector Byte 7), exec (.poll g) s = .next t
        ∧ t.now = max s.now (s.segment g).readyAt
        ∧ t.segment g = { s.segment g with poll := some ⟨f, t.now + 70, t.now + 370⟩ }
        ∧ (∀ h, h ≠ g → t.segment h = s.segment h)
        ∧ { t with bus := { t.bus with segments := s.bus.segments }, now := s.now } = s
        ∧ f[0].toNat = 128 + (s.segment g).cursor
        ∧ (if st.fault = true then f[1].toNat = 15 ∧ f[3].toNat % 16 = 3 ∧ f[4] = 0x20#8 ∧ f[5] = 0x20#8
          else match x.language with
            | none => f[1].toNat = 15 ∧ f[3].toNat % 16 = (if x.lockTimer.isSome then 1 else 0)
                ∧ f[4] = 0x2D#8 ∧ f[5] = 0x2D#8
            | some c =>
              f[1].toNat = (if enabled c = true then c.val else 15)
                ∧ f[3].toNat % 16 = (if enabled c = false then 2 else if x.lockTimer.isSome then 1 else 0)
                ∧ f[4] = (s.channel c).label0 ∧ f[5] = (s.channel c).label1)
        ∧ f[2].toNat = x.effective
        ∧ f[3].toNat / 16 = (if st.baseline = true then 1 else 0)
        ∧ f[6] = checkByte [f[0], f[1], f[2], f[3], f[4], f[5]]))

/-- The bits of a byte, most significant first. -/
def Claims.bitsOf (b : Byte) : List Bool := (List.range 8).map fun k => b.getLsbD (7 - k)

/-- The check register of x⁸ + x² + x + 1 after one message bit: the register moves up one place, and 07h is added
where the bit that leaves it differs from the message bit. -/
def Claims.checkBit (r : Byte) (b : Bool) : Byte := if r.getLsbD 7 ≠ b then r <<< 1 ^^^ 0x07#8 else r <<< 1

/-- A count held in four bits of two's complement. -/
def Claims.signed4 (n : Nat) : Int := if n < 8 then n else (n : Int) - 16

/-- The check byte is the register after every bit of every byte, most significant bit first, from FFh (R201). A
four-byte reply is good when its check byte matches, bit 7 of byte 0 is clear, byte 0 names the polled address and
both step counts lie from −3 to +3; it then carries the jack, the fault, the event toggle and the two step counts
(R133, R201, REPLY bytes). A good reply moves ABSENT and LOST to JOINING, loading the baseline and discarding the
steps, JOINING to PRESENT and PRESENT to PRESENT, judging the steps by the toggle rule; the miss count is 0 and FAULT
is as reported. A miss leaves ABSENT, makes JOINING ABSENT, makes PRESENT LOST at the third miss and LOST ABSENT at
the thirty-second; becoming ABSENT clears FAULT, and no miss moves the baseline (R135 to R138, R142). -/
def Obligations.GoodRepliesAndStationTables : Prop :=
  ((∀ bs : List Byte, checkByte bs = (bs.flatMap Claims.bitsOf).foldl Claims.checkBit 0xFF#8)
    ∧ (∀ (b : Vector Byte 4) (address : Nat),
    let language := Claims.signed4 (b[2].toNat / 16)
    let volume := Claims.signed4 (b[2].toNat % 16)
    let good := b[3] = checkByte [b[0], b[1], b[2]] ∧ b[0].toNat < 128 ∧ b[0].toNat % 16 = address
      ∧ -3 ≤ language ∧ language ≤ 3 ∧ -3 ≤ volume ∧ volume ≤ 3
    (good → parseReply b address =
        some ⟨b[1].getLsbD 7, b[1].getLsbD 6, b[1].getLsbD 5, language, volume⟩)
    ∧ (¬good → parseReply b address = none)))
    ∧ (∀ (x : Station) (m : Reply), Safety.stationLawful x = true →
    let r := x.goodReply m
    r.1.baseline = m.toggle ∧ r.1.fault = m.fault ∧ r.1.misses = 0
      ∧ (x.state = .absent ∨ x.state = .lost → r.1.state = .joining ∧ r.2 = false)
      ∧ (x.state = .joining ∨ x.state = .present → r.1.state = .present ∧ (r.2 = true ↔ m.toggle ≠ x.baseline)))
    ∧ ∀ x : Station,
      x.missed.baseline = x.baseline
        ∧ (x.state = .absent → x.missed = x)
        ∧ (x.state = .joining → x.missed.state = .absent ∧ x.missed.fault = false)
        ∧ (x.state = .present → x.misses < 2 → x.missed = { x with misses := x.misses + 1 })
        ∧ (x.state = .present → x.misses = 2 → x.missed = { x with state := .lost, misses := 0 })
        ∧ (x.state = .lost → x.misses < 31 → x.missed = { x with misses := x.misses + 1 })
        ∧ (x.state = .lost → x.misses = 31 → x.missed = { x with state := .absent, misses := 0, fault := false })

/-- The poll of segment `g` has ended: nothing is in flight, the gap of 10 µs runs, and the cursor has moved on from
the polled address. The other segments are as they were (R132). -/
abbrev Claims.pollEnded (s t : State) (g : SegmentNo) : Prop :=
  Claims.cursorMovedFrom t g ((s.segment g).cursor + 1)
      { s.segment g with poll := none, readyAt := t.now + 10 }
    ∧ ∀ h, h ≠ g → t.segment h = s.segment h

/-- The number of seats whose language is channel `c`, enabled, with a PRESENT station, a PLUGGED jack and no FAULT
(R157). -/
def Claims.listeners (t : State) (c : ChannelNo) : Nat :=
  ((List.finRange 96).filter fun i =>
    (t.seat i).language = some c && t.roster.enabled.getLsbD c.val && (t.seat i).station = .present && (t.seat i).plugged
      && !(t.seat i).fault).length

/-- Two records of a seat that differ in a field whose change raises SEAT_EVENT (R156). -/
abbrev Claims.seatChanged (x y : Seat) : Prop :=
  x.station ≠ y.station ∨ x.plugged ≠ y.plugged ∨ x.fault ≠ y.fault ∨ x.language ≠ y.language
    ∨ x.assignedBy ≠ y.assignedBy ∨ x.lock ≠ y.lock ∨ x.tag ≠ y.tag ∨ x.volume ≠ y.volume

/-- The roster has taken one report or request: every census counts its listeners, LISTENED follows it and the deck
channel, and where a field of R156 changed the change count moves by one and SEAT_EVENT is set; the enabled set, deck
channel, band and trims stay (R156 to R158). -/
abbrev Claims.rosterTook (s t : State) : Prop :=
  (∀ c : ChannelNo, t.roster.census[c] = Claims.listeners t c)
    ∧ ((∃ i, Claims.seatChanged (s.seat i) (t.seat i)) →
      t.roster.changeCount = (s.roster.changeCount + 1) % 256
        ∧ ∀ p, (s.port p).prstHeld = false → (t.port p).notices &&& 0x1000#16 = 0x1000#16)
    ∧ ((∀ i, ¬Claims.seatChanged (s.seat i) (t.seat i)) → t.roster.changeCount = s.roster.changeCount)
    ∧ (∀ c : ChannelNo,
      t.roster.listened[c] = (decide (0 < t.roster.census[c]) || decide (t.roster.deck = some c)))
    ∧ t.roster.enabled = s.roster.enabled ∧ t.roster.deck = s.roster.deck ∧ t.roster.band = s.roster.band
    ∧ t.roster.trims = s.roster.trims

/-- A REPLY judged good within the window of a poll in flight is taken whole: the station record by the station
tables, and one report to the roster with the state, the jack and FAULT; the volume steps of a new report are added
within 0 to 15; its language steps start the lock-indicator timer of a locked seat for 2 s and leave its language, and
else, where a channel is enabled, make the passenger the seat's assigner; no framing error counts (R133, R135, R138,
R140 to R142, R150, R153 to R155). MODEL'S CHOICE: the clock stands at the reply's last byte at least (log entry 2). -/
def Obligations.AGoodReplyIsTakenWhole : Prop :=
  ∀ (s : State) (g : SegmentNo) (b : Vector Byte 4) (w : PollInFlight) (m : Reply),
    (s.segment g).poll = some w → (s.segment g).cursor < 16 → (s.segment g).cycleCount < 8 →
    parseReply b (s.segment g).cursor = some m →
    let i := seatAt g (s.segment g).cursor
    let x := s.seat i
    let r := (s.station i).goodReply m
    let steps := if r.2 = true then m.language else 0
    let volume : Int := x.volume + (if r.2 = true then m.volume else 0)
    ∃ t, exec (.reply g b) s = .next t
      ∧ t.now = max s.now (w.opens + 40) ∧ Claims.pollEnded s t g ∧ Claims.rosterTook s t
      ∧ t.station i = r.1 ∧ (∀ j, j ≠ i → t.station j = s.station j ∧ t.seat j = s.seat j)
      ∧ (t.seat i).station = r.1.state ∧ (t.seat i).plugged = m.plugged ∧ (t.seat i).fault = m.fault
      ∧ (t.seat i).lock = x.lock ∧ (t.seat i).tag = x.tag
      ∧ ((t.seat i).volume : Int) = (if volume < 0 then 0 else if 15 < volume then 15 else volume)
      ∧ (steps = 0 ∨ s.roster.enabled = 0 ∧ x.lock = false →
        (t.seat i).language = x.language ∧ (t.seat i).assignedBy = x.assignedBy ∧ (t.seat i).lockTimer = x.lockTimer)
      ∧ (steps ≠ 0 → x.lock = true → (t.seat i).language = x.language ∧ (t.seat i).assignedBy = x.assignedBy
        ∧ (t.seat i).lockTimer = some (t.now + 2000000))
      ∧ (steps ≠ 0 → x.lock = false → s.roster.enabled ≠ 0 → (t.seat i).assignedBy = .seat
        ∧ (t.seat i).language = (stepLanguage s.roster.enabled (decide (0 < steps)))^[steps.natAbs] x.language
        ∧ (t.seat i).lockTimer = x.lockTimer)
      ∧ t.ports.counters = s.ports.counters
      ∧ ((s.station i).fault ≠ m.fault → ∀ p, (s.port p).prstHeld = false → (t.port p).notices &&& 0x2000#16 = 0x2000#16)

/-- A reply that is not good, and a reply window that closes before four bytes, are misses: the station follows its miss
table, and the roster takes a changed state, with the jack unplugged and FAULT clear where the station becomes ABSENT; a
FAULT that clears so raises STATION_FAULT; a framing error counts but where no byte came (R132 to R134, R136, R137,
R140, R142). MODEL'S CHOICE: the clock stands at the last byte or the window's end at least (log entry 2), a window that
closes on four or more bytes is a miss with a framing error (log entry 30), and with no poll in flight neither does
anything (log entry 3). -/
def Obligations.AMissIsJudgedByTheMissTable : Prop :=
  ∀ (s : State) (g : SegmentNo), (s.segment g).cycleCount < 8 → (s.seat (seatAt g (s.segment g).cursor)).volume ≤ 15 →
    let i := seatAt g (s.segment g).cursor
    let missed (t : State) (framing : Bool) : Prop :=
      Claims.pollEnded s t g ∧ t.station i = (s.station i).missed
        ∧ (∀ j, j ≠ i → t.station j = s.station j ∧ t.seat j = s.seat j)
        ∧ ((s.station i).missed.state = (s.station i).state → t.roster = s.roster)
        ∧ ((s.station i).missed.state ≠ (s.station i).state → Claims.rosterTook s t
          ∧ t.seat i =
            (if (s.station i).missed.state = .absent then
              { s.seat i with station := .absent, plugged := false, fault := false }
            else { s.seat i with station := (s.station i).missed.state }))
        ∧ ((s.station i).fault = true → (s.station i).missed.fault = false → Claims.noticed s t 0x2000#16)
        ∧ t.ports.counters =
          { s.ports.counters with
            framing := s.ports.counters.framing.set g
              (if framing = true then min (s.ports.counters.framing[g] + 1) 65535 else s.ports.counters.framing[g]) }
    (∀ (b : Vector Byte 4) (w : PollInFlight), (s.segment g).poll = some w → (s.segment g).cursor < 16 →
      parseReply b (s.segment g).cursor = none →
      ∃ t, exec (.reply g b) s = .next t ∧ t.now = max s.now (w.opens + 40) ∧ missed t true)
    ∧ (∀ (n : Nat) (w : PollInFlight), (s.segment g).poll = some w → (s.segment g).cursor < 16 →
      ∃ t, exec (.replyWindowExpiry g n) s = .next t ∧ t.now = max s.now w.closes ∧ missed t (decide (n ≠ 0)))
    ∧ ((s.segment g).poll = none → (∀ b, exec (.reply g b) s = .next s) ∧ ∀ n, exec (.replyWindowExpiry g n) s = .next s)

/-! ## Seat roster and assignments (07_seat_roster_and_assignments.md) -/

/-- A language step goes to the first enabled channel met in its direction, wrapping, from the seat's language, from
below 0 (up) or above 11 (down) where it has none; with no channel enabled it changes nothing (R153). `k` counts the
channels passed over. The lock-indicator timer of a seat stops when it expires, and nothing else of the roster
changes (R154). MODEL'S CHOICE: the clock stands at the timer's moment at least (log entry 2), and a stopped timer does
not expire (log entry 3). -/
def Obligations.LanguageStepsAndTheLockIndicator : Prop :=
  (∀ (enabled : ChannelSet) (up : Bool) (language : Option ChannelNo),
    (enabled = 0 → stepLanguage enabled up language = language)
    ∧ ∀ k : Nat, k < 12 →
      let place (n : Nat) : ChannelNo :=
        match language, up with
        | none, true => Fin.ofNat 12 n
        | none, false => Fin.ofNat 12 (11 - n % 12)
        | some c, true => Fin.ofNat 12 (c.val + 1 + n)
        | some c, false => Fin.ofNat 12 (c.val + 23 - n)
      enabled.getLsbD (place k).val = true → (∀ n < k, enabled.getLsbD (place n).val = false) →
      stepLanguage enabled up language = some (place k))
    ∧ ((∀ (s : State) (i : SeatNo) (at' : Nat), (s.seat i).lockTimer = some at' →
    exec (.lockIndicatorExpiry i) s = .next
      { s with
        now := max s.now at'
        roster := { s.roster with seats := s.roster.seats.set i { s.seat i with lockTimer := none } } })
    ∧ ∀ (s : State) (i : SeatNo), (s.seat i).lockTimer = none → exec (.lockIndicatorExpiry i) s = .next s)

/-- ASSIGN with a seat above 95, a language above 11 or not enabled, or a lock choice above 1 is refused BAD_ARGUMENT.
Otherwise it writes the seat's language, assigned-by, LOCK and ticket tag whole, stops its lock-indicator timer,
leaves the rest of the record and every other seat, and ends with OK (R151, R156, R157). RELEASE of a seat above 95 is
refused BAD_ARGUMENT; RELEASE of a seat, and RELEASE_ALL of all 96, set language and assigned-by to NONE, clear LOCK and
the ticket tag, stop the lock-indicator timer, leave the rest of the record, and end with OK (R152, R156, R157). MODEL'S CHOICE: of the tag's two halves, ARG2 is the
upper and ARG3 the lower (log entry 39). -/
def Obligations.AssignAndReleaseWriteSeats : Prop :=
  let freed (x : Seat) : Seat :=
    { x with language := none, assignedBy := .none, lock := false, tag := none, lockTimer := none }
  let others (s t : State) : Prop := Claims.rosterTook s t
    ∧ { t with roster := s.roster, engine := s.engine, ports := s.ports } = s
  (∀ (s : State) (a : Args), s.inHand .fare .assign = some a →
    (95 < a.a0.toNat ∨ 11 < a.a1.toNat % 256 ∨ s.roster.enabled.getLsbD (a.a1.toNat % 256) = false
        ∨ 1 < a.a1.toNat / 256 % 4 →
      exec .assign s = .next (s.answer .fare .badArgument 0))
    ∧ (∀ (i : SeatNo) (c : ChannelNo), a.a0.toNat = i.val → a.a1.toNat % 256 = c.val →
      s.roster.enabled.getLsbD c.val = true → a.a1.toNat / 256 % 4 ≤ 1 →
      ∃ t : State, exec .assign s = .next (t.answer .fare .ok 0)
        ∧ t.seat i =
            { s.seat i with
              language := some c
              assignedBy := .fare
              lock := a.a1.toNat / 256 % 4 = 1
              tag := if a.a1.getLsbD 15 = true then some (BitVec.ofNat 32 (a.a2.toNat * 65536 + a.a3.toNat)) else none
              lockTimer := none }
        ∧ (∀ j, j ≠ i → t.seat j = s.seat j) ∧ others s t))
    ∧ (∀ (s : State) (a : Args), s.inHand .fare .release = some a →
      (95 < a.a0.toNat → exec .release s = .next (s.answer .fare .badArgument 0))
      ∧ (∀ i : SeatNo, a.a0.toNat = i.val →
        ∃ t : State, exec .release s = .next (t.answer .fare .ok 0)
          ∧ t.seat i = freed (s.seat i) ∧ (∀ j, j ≠ i → t.seat j = s.seat j) ∧ others s t))
    ∧ ∀ (s : State) (a : Args), s.inHand .fare .releaseAll = some a →
      ∃ t : State, exec .releaseAll s = .next (t.answer .fare .ok 0)
        ∧ (∀ i, t.seat i = freed (s.seat i)) ∧ others s t

/-- CHANNEL_ENABLE with a channel above 11 is refused BAD_ARGUMENT. Otherwise it puts the set in force: no seat record
and no change count moves, every census counts its listeners under the new set, a channel that stays enabled keeps its
item and its stack, and a channel it disables is QUIET with nothing saved, pending, offered or fetched and silence out.
The OPEN obligations of a disabled channel are UNHEARD and its PLAYING and CUT ones DROPPED for LOSS, so that none is
left unsettled, and those of every other channel are as they were (R66, R67, R101, R119, R157, R160, R161). -/
def Obligations.ChannelEnablePutsTheSetInForce : Prop :=
  ∀ (s : State) (a : Args), s.inHand .crew .channelEnable = some a →
    (4096 ≤ a.a0.toNat → exec .channelEnable s = .next (s.answer .crew .badArgument 0))
    ∧ (a.a0.toNat < 4096 → Safety.Queue s → Safety.Disabled s → Safety.Playing s → Safety.Cut s →
      ∃ t : State, exec .channelEnable s = .next t
        ∧ (t.port .crew).busy = none ∧ (t.port .crew).result = .ok ∧ (t.port .crew).detail = 0
        ∧ t.roster.enabled = a.a0.extractLsb' 0 12 ∧ t.roster.changeCount = s.roster.changeCount
        ∧ (∀ i, t.seat i = s.seat i) ∧ (∀ c : ChannelNo, t.roster.census[c] = Claims.listeners t c)
        ∧ (∀ c : ChannelNo, (t.channel c).enabled = a.a0.getLsbD c.val)
        ∧ (∀ c : ChannelNo, (s.channel c).enabled = true → a.a0.getLsbD c.val = true →
          (t.channel c).playhead = (s.channel c).playhead ∧ (t.channel c).itemClass = (s.channel c).itemClass
            ∧ (t.channel c).stack = (s.channel c).stack ∧ (t.channel c).action = (s.channel c).action
            ∧ (t.channel c).fetch = (s.channel c).fetch)
        ∧ (∀ c : ChannelNo, (s.channel c).enabled = true → a.a0.getLsbD c.val = false →
          (t.channel c).playState = .quiet ∧ (t.channel c).itemClass = .none ∧ (t.channel c).playhead = .none
            ∧ (t.channel c).stack = [] ∧ (t.channel c).action = .none ∧ (t.channel c).offer = none
            ∧ (t.channel c).hold = 0 ∧ (t.channel c).fetch = .none ∧ (t.channel c).output = .silence)
        ∧ (∀ c : ChannelNo, Claims.owedOn s t c fun _ o =>
          if (s.channel c).enabled = true ∧ a.a0.getLsbD c.val = false then
            match o.state with
            | .opened => { o with state := .unheard }
            | .playing => { o with state := .dropped, cause := some .loss }
            | .cut => { o with state := .dropped, cause := some .loss }
            | .heard => o
            | .unheard => o
            | .dropped => o
          else o)
        ∧ t.route = s.route ∧ t.script = s.script ∧ t.reader = s.reader ∧ t.bus = s.bus ∧ t.lights = s.lights)

/-! ## Upper-deck lighting (08_upper_deck_lighting.md) -/

/-- Zone `z`'s mode and pending level are those of the first case of R167 that applies to its current level. -/
abbrev Claims.zoneSettled (l : Lights) (z : Fin 8) : Prop :=
  let x := l.zones[z]
  if l.safetyActive = true then x.mode = .safety ∧ x.pending = 255
  else if l.flashActive = true ∧ l.flashMask.getLsbD z.val = true then
    x.mode = .flash ∧ x.pending = (if l.phaseOn = true then 255 else 0)
  else if l.exempt.getLsbD z.val = true then x.mode = .exempt ∧ x.pending = x.current
  else x.mode = .scaled ∧ x.pending = x.current * (match l.ambient with
    | .day => l.dayScale
    | .dusk => l.duskScale
    | .night => l.nightScale) / 256

/-- `l` with every zone settled anew, its levels otherwise as they are: the light controller's answer to a changed
input (R167). -/
abbrev Claims.settledFrom (l l' : Lights) : Prop :=
  { l' with zones := l.zones } = l
    ∧ ∀ z : Fin 8, Claims.zoneSettled l' z ∧ l'.zones[z].current = l.zones[z].current
      ∧ l'.zones[z].target = l.zones[z].target ∧ l'.zones[z].applied = l.zones[z].applied

/-- Scene `k` has been applied to `l`: every zone's target becomes its level, its rate and exempt mask come into force,
at rate 0 every current level goes to its target at once and at any other stays, every pending level is computed anew
and no applied level moves (R167, R169). -/
abbrev Claims.sceneApplied (l l' : Lights) (k : Fin 16) : Prop :=
  l'.sceneInForce = some k ∧ l'.rate = l.scenes[k].rate ∧ l'.exempt = l.scenes[k].exempt
    ∧ (∀ z : Fin 8, Claims.zoneSettled l' z ∧ l'.zones[z].target = l.scenes[k].levels[z]
      ∧ l'.zones[z].current = (if l.scenes[k].rate = 0 then l.scenes[k].levels[z] else l.zones[z].current)
      ∧ l'.zones[z].applied = l.zones[z].applied)
    ∧ { l' with zones := l.zones, sceneInForce := l.sceneInForce, rate := l.rate, exempt := l.exempt } = l

/-- A PWM period start copies every pending level to its applied level and starts the next period of 4 ms. A fade step
moves every current level towards its target by the rate in force or by the difference if that is smaller, computes the
pending levels anew and comes again in 20 ms. A conversion start sets RUN for 50 µs and comes again in 500 ms. Nothing
else changes, and while RESET# is held none of them happens (R166, R167, R171, R172, R179). A conversion's completion
latches the sample, clears RUN and judges the sample against the day threshold, then the night threshold. The class in
force clears the candidate; the candidate counts one more and at 4 becomes the class, every pending level being computed
anew; any other class becomes the candidate with count 1 (R172 to R174). MODEL'S CHOICE: the clock stands at the moment
of each at least (log entry 2), and with no conversion running nothing happens (log entry 3). -/
def Obligations.TheLightClocksAndTheConverter : Prop :=
  (∀ s : State,
    (s.resetHeld = true →
      exec .pwmPeriodStart s = .next s ∧ exec .fadeStep s = .next s ∧ exec .conversionStart s = .next s)
    ∧ (s.resetHeld = false →
      (∃ l : Lights, exec .pwmPeriodStart s = .next { s with now := max s.now s.lights.nextPwm, lights := l }
        ∧ { l with zones := s.lights.zones, nextPwm := s.lights.nextPwm } = s.lights
        ∧ l.nextPwm = s.lights.nextPwm + 4000
        ∧ ∀ z : Fin 8, l.zones[z] = { s.lights.zones[z] with applied := s.lights.zones[z].pending })
      ∧ (∃ l : Lights, exec .fadeStep s = .next { s with now := max s.now s.lights.nextFade, lights := l }
        ∧ { l with zones := s.lights.zones, nextFade := s.lights.nextFade } = s.lights
        ∧ l.nextFade = s.lights.nextFade + 20000
        ∧ ∀ z : Fin 8, let x := s.lights.zones[z]
          Claims.zoneSettled l z ∧ l.zones[z].target = x.target ∧ l.zones[z].applied = x.applied
            ∧ l.zones[z].current =
              (if x.current + s.lights.rate ≤ x.target then x.current + s.lights.rate
              else if x.target + s.lights.rate ≤ x.current then x.current - s.lights.rate
              else x.target))
      ∧ exec .conversionStart s = .next
          { s with
            now := max s.now s.lights.nextConversion
            lights :=
              { s.lights with
                run := true
                nextConversion := s.lights.nextConversion + 500000
                conversionEnd := max s.now s.lights.nextConversion + 50 } }))
    ∧ (∀ (s : State) (sample : BitVec 10),
    let indicated : Ambient :=
      if s.lights.dayThreshold < sample.toNat then .day
      else if sample.toNat < s.lights.nightThreshold then .night
      else .dusk
    let latched : Lights := { s.lights with sample := sample.toNat, run := false }
    let after (l : Lights) : State := { s with now := max s.now s.lights.conversionEnd, lights := l }
    (s.lights.run = false → exec (.conversionComplete sample) s = .next s)
    ∧ (s.lights.run = true → indicated = s.lights.ambient →
      exec (.conversionComplete sample) s = .next (after { latched with candidate := none, candidateCount := 0 }))
    ∧ (s.lights.run = true → indicated ≠ s.lights.ambient → s.lights.candidate ≠ some indicated →
      exec (.conversionComplete sample) s = .next (after { latched with candidate := some indicated, candidateCount := 1 }))
    ∧ (s.lights.run = true → indicated ≠ s.lights.ambient → s.lights.candidate = some indicated →
      s.lights.candidateCount < 3 →
      exec (.conversionComplete sample) s = .next (after { latched with candidateCount := s.lights.candidateCount + 1 }))
    ∧ (s.lights.run = true → indicated ≠ s.lights.ambient → s.lights.candidate = some indicated →
      s.lights.candidateCount = 3 →
      ∃ l, exec (.conversionComplete sample) s = .next (after l)
        ∧ Claims.settledFrom { latched with ambient := indicated, candidate := none, candidateCount := 0 } l))

/-- SCENE above 15 is refused BAD_ARGUMENT and changes nothing; otherwise the scene is applied as its record stands,
and the request ends with OK, whatever FLASH, SAFETY, the ambient class and the catalogue (R167, R169, R170). The light
controller takes the changes in the order the queue handed them. FLASH active starts the phase at ON and
the half-period timer; FLASH inactive stops the timer; each timer expiry flips the phase and starts the timer again; a
SAFETY change sets the state. Each computes every pending level anew. A change that finds the state already there
changes nothing but the list of changes handed on (R167, R176, R178). MODEL'S CHOICE: the clock stands at the timer's
moment at least (log entry 2), and a change that is not first in line, or a stopped timer's expiry, does nothing (log
entry 3). -/
def Obligations.ScenesFlashAndSafetyDriveTheZones : Prop :=
  (∀ (s : State) (a : Args), s.inHand .crew .scene = some a →
    (15 < a.a0.toNat → exec .scene s = .next (s.answer .crew .badArgument 0))
    ∧ ∀ k : Fin 16, a.a0.toNat = k.val →
      ∃ l : Lights, exec .scene s = .next ({ s with lights := l }.answer .crew .ok 0)
        ∧ Claims.sceneApplied s.lights l k)
    ∧ (∀ (s : State) (rest : List LightChange) (on : Bool), s.queue.handed = .flash on :: rest →
      ∃ l, exec .flashChange s = .next { s with queue := { s.queue with handed := rest }, lights := l }
        ∧ exec .safetyChange s = .next s
        ∧ (on = s.lights.flashActive → l = s.lights)
        ∧ (on = true → s.lights.flashActive = false →
          Claims.settledFrom
            { s.lights with flashActive := true, phaseOn := true, flashTimer := some (s.now + s.lights.halfPeriod * 1000) }
            l)
        ∧ (on = false → s.lights.flashActive = true →
          Claims.settledFrom { s.lights with flashActive := false, flashTimer := none } l))
    ∧ (∀ (s : State) (rest : List LightChange) (on : Bool), s.queue.handed = .safety on :: rest →
      ∃ l, exec .safetyChange s = .next { s with queue := { s.queue with handed := rest }, lights := l }
        ∧ exec .flashChange s = .next s
        ∧ (on = s.lights.safetyActive → l = s.lights)
        ∧ (on ≠ s.lights.safetyActive → Claims.settledFrom { s.lights with safetyActive := on } l))
    ∧ (∀ s : State, s.queue.handed = [] → exec .flashChange s = .next s ∧ exec .safetyChange s = .next s)
    ∧ (∀ (s : State) (at' : Nat), s.lights.flashTimer = some at' →
      ∃ l, exec .flashHalfPeriodExpiry s = .next { s with now := max s.now at', lights := l }
        ∧ Claims.settledFrom
          { s.lights with
            phaseOn := !s.lights.phaseOn, flashTimer := some (max s.now at' + s.lights.halfPeriod * 1000) } l)
    ∧ ∀ s : State, s.lights.flashTimer = none → exec .flashHalfPeriodExpiry s = .next s

/-! ## Cues (02_cue_scripts_and_bank_switching.md, R35 to R42) -/

/-- The entry an ANNOUNCE cue makes, with this id, for the trip distance stated with the offer (R40, R108). -/
def Claims.cueEntry (s : State) (q : CueSlot) (trip id : Nat) : Entry where
  id := id
  cls := if q.w1.getLsbD 12 then .express else .standard
  source := .cue
  content := .clip (q.w2.toNat % 2048)
  flash := q.w2.getLsbD 15
  safety := q.w2.getLsbD 14
  launchTrip := none
  expiry := .trip (min (trip + q.w3.toNat % 4096) 4294967295)
  launched := true
  expiryTaken := none
  timer := none
  obligations := Claims.obligationsFor s q.w1

/-- What channel `c` does with a COMMENTARY cue: in QUIET, COMMENTARY or HOLD a START with the group and the time; in
ANNOUNCE or LIVE a context on the resume stack, by the table of R82. -/
abbrev Claims.commentaryTaken (s t : State) (c : ChannelNo) (group : Nat) : Prop :=
  let ch := s.channel c
  let k : Context := .commentary ⟨group, 0, 0, group, s.now⟩
  ((ch.playState = .quiet ∨ ch.playState = .commentary ∨ ch.playState = .hold) →
      t.channel c = { ch with action := .start group s.now })
    ∧ ((ch.playState = .announce ∨ ch.playState = .live) →
      (ch.stack = [] → t.channel c = { ch with stack := [k] })
      ∧ (∀ id cls, ch.stack = [.announcement id cls] →
        t.channel c = { ch with stack := [.announcement id cls, k] })
      ∧ (∀ old, ch.stack = [.commentary old] → t.channel c = { ch with stack := [k] })
      ∧ (∀ id cls old, ch.stack = [.announcement id cls, .commentary old] →
        t.channel c = { ch with stack := [.announcement id cls, k] })
      ∧ (∀ id cls id' cls', ch.stack = [.announcement id cls, .announcement id' cls'] →
        t.channel c = ch ∧ ∀ p, (s.port p).prstHeld = false → (t.port p).notices &&& 0x0200#16 = 0x0200#16))

/-- An odometer advance that reaches cues at its metre fires them, no entry being due at the new trip distance: from the
pointer on, or on a wrap from the first cue, in index order, leaving the pointer beyond them. Where several fire, each
acts on what the one before has left, so that of several COMMENTARY cues for a channel the last stands. What one cue
does: a MARK cue writes its number, adds one to the mark count and raises MARK. A SCENE cue applies its scene. A
COMMENTARY cue while the catalogue is not READY, and an ANNOUNCE cue then or flagged NEEDS_FIX while STALE, is dropped:
CUE_DROPPED and the cue-drop counter. A QUIET cue removes every commentary context of its enabled channels and leaves a
STOP in QUIET, COMMENTARY and HOLD. A COMMENTARY cue starts or saves its chain on every enabled channel of its set. An
ANNOUNCE cue makes its entry, or counts UNHEARD with an empty target set, or is dropped by a full queue (R35 to R42, R80
to R82, R108). -/
def Obligations.AnAdvanceFiresTheCuesItReaches : Prop :=
  ∀ s : State, s.resetHeld = false → s.route.ratio ≤ s.route.prescaler + 1 →
    s.route.lap < 16 → 1 ≤ s.route.loopLength → s.route.trip + 1 < 4294967295 → s.script.pendingSwitch = none →
    (∀ x ∈ s.queue.entries, x.launchDue (s.route.trip + 1) = false ∧ x.expiryDue (s.route.trip + 1) = false) →
    let b := s.script.activeBank
    let r := Claims.metreOn s.route
    let i := if r.distance = 0 then 0 else s.script.pointer
    let arrived (n : Nat) : State :=
      { s with
        route := { r with prescaler := 0, trip := s.route.trip + 1, windowCount := s.route.windowCount + 1 }
        script := { s.script with pointer := n } }
    (∀ cues : List CueSlot, cues = (b.slots.toList.drop i).take cues.length → i + cues.length ≤ b.cueCount →
      (∀ x ∈ cues, x.w0.toNat ≤ r.distance) → Claims.noCueOwed s (i + cues.length) r.distance →
      let t := cues.foldl (fun u x => u.fireCue x (s.route.trip + 1)) (arrived (i + cues.length))
      exec .odometerPulse s = .next t
        ∧ ∀ x ∈ cues.getLast?, x.w1.toNat / 8192 = 0 → s.reader.catalogue = .ready → ∀ c : ChannelNo,
          (s.channel c).enabled = true → x.w1.getLsbD c.val = true →
          (s.channel c).playState = .quiet ∨ (s.channel c).playState = .commentary ∨ (s.channel c).playState = .hold →
          (t.channel c).action = .start (x.w2.toNat % 2048) s.now)
    ∧ ∀ q : CueSlot, i < b.cueCount → b.slots[i]? = some q → q.w0.toNat = r.distance →
    Claims.noCueOwed s (i + 1) r.distance →
    let moved : State := arrived (i + 1)
    let kind := q.w1.toNat / 8192
    let among (c : ChannelNo) : Prop := (s.channel c).enabled = true ∧ q.w1.getLsbD c.val = true
    let dropped : Prop := exec .odometerPulse s = .next
      { moved.raise .cueDropped with
        ports :=
          { (moved.raise .cueDropped).ports with
            counters := { s.ports.counters with cueDrops := min (s.ports.counters.cueDrops + 1) 65535 } } }
    (kind = 4 → exec .odometerPulse s = .next
      ({ moved with script :=
          { moved.script with
            markNumber := q.w2.toNat % 256, markCount := (s.script.markCount + 1) % 256 } }.raise .mark))
    ∧ (kind = 3 → ∀ k : Fin 16, q.w2.toNat % 16 = k.val →
      ∃ l, exec .odometerPulse s = .next { moved with lights := l } ∧ Claims.sceneApplied s.lights l k)
    ∧ (kind = 0 → s.reader.catalogue ≠ .ready → dropped)
    ∧ (kind = 0 → s.reader.catalogue = .ready →
      ∃ t, exec .odometerPulse s = .next t
        ∧ (∀ c, among c → Claims.commentaryTaken s t c (q.w2.toNat % 2048))
        ∧ (∀ c, ¬among c → t.channel c = s.channel c)
        ∧ { t with engine := s.engine, ports := s.ports } = { moved with engine := s.engine })
    ∧ (kind = 1 →
      ∃ t, exec .odometerPulse s = .next t
        ∧ (∀ c, among c →
          t.channel c =
            { s.channel c with
              action :=
                (match (s.channel c).playState with
                | .quiet => .stop
                | .commentary => .stop
                | .hold => .stop
                | .announce => (s.channel c).action
                | .live => (s.channel c).action)
              stack := (s.channel c).stack.filter (fun k => match k with
                | .announcement _ _ => true
                | .commentary _ => false) })
        ∧ (∀ c, ¬among c → t.channel c = s.channel c)
        ∧ { t with engine := s.engine } = { moved with engine := s.engine })
    ∧ (kind = 2 → q.w2.getLsbD 13 = true ∧ s.route.stale = true ∨ s.reader.catalogue ≠ .ready → dropped)
    ∧ (kind = 2 → (q.w2.getLsbD 13 = false ∨ s.route.stale = false) → s.reader.catalogue = .ready →
      (Claims.obligationsFor s q.w1 = [] →
        exec .odometerPulse s = .next
          { moved with
            ports :=
              { s.ports with counters := { s.ports.counters with unheard := min (s.ports.counters.unheard + 1) 65535 } } })
      ∧ (Claims.obligationsFor s q.w1 ≠ [] → 16 ≤ s.queue.entries.length → dropped)
      ∧ (Claims.obligationsFor s q.w1 ≠ [] → s.queue.entries.length < 16 → Safety.Queue s → 0 < q.w3.toNat % 4096 →
        ∃ (id : Nat) (t : State), Claims.isNextId s.queue id
          ∧ exec .odometerPulse s = .next t
          ∧ (let e := Claims.cueEntry s q (s.route.trip + 1) id
            t.queue =
              { s.queue with
                lastId := id
                entries := (s.queue.entries.filter fun x => e.cls.rank ≤ x.cls.rank) ++ [e]
                  ++ s.queue.entries.filter fun x => x.cls.rank < e.cls.rank })
          ∧ Claims.offersNamed t ∧ Claims.onlyOffersMoved s t
          ∧ { t with queue := s.queue, engine := s.engine } = moved))

/-- A FIX within the jump window is a catch-up: the trip distance grows by the forward distance at once, and the route
walks to the fixed distance, counting a lap where it wraps, unless the request sets the lap; the speed window counts
nothing and the fix state is as for any accepted FIX. Short of a pending switch's point the record stays, but that a
wrap to the lap after its target lap counts it late once more. A walk that reaches the point executes the switch there:
the roles exchange, the position is re-based on the new loop, the metres left are walked on it without firing, and the
pointer stands beyond the final distance. A cue that a walk passes fires with the trip distance of its own position: a
MARK or SCENE cue as at an odometer advance, and an ANNOUNCE cue as an entry whose expiry counts from there, which has
expired already where the new trip distance has reached it (R9 to R11, R13, R15, R16, R29, R33 to R35, R110). -/
def Obligations.AFixWithinTheWindowCatchesUp : Prop :=
  ∀ (s : State) (a : Args), s.inHand .route .fix = some a →
    s.route.distance < s.route.loopLength → s.route.lap < 16 → a.a0.toNat < s.route.loopLength →
    (a.a1.toNat ≤ 15 ∨ a.a1 = 0xFFFF#16) →
    ∀ d, d = (if s.route.distance ≤ a.a0.toNat then a.a0.toNat - s.route.distance
        else s.route.loopLength - s.route.distance + a.a0.toNat) →
    0 < d → d ≤ s.route.jumpWindow →
    let walked (n : Nat) : RouteCounter := Claims.metreOn^[n] s.route
    let reached (w : PendingSwitch) (n : Nat) : Prop := (walked n).lap = w.lap ∧ (walked n).distance = w.position
    let trip (n : Nat) : Nat := min (s.route.trip + n) 4294967295
    let fixed (r : RouteCounter) : RouteCounter :=
      { r with
        lap := if a.a1 ≠ 0xFFFF#16 then a.a1.toNat else r.lap
        trip := trip d
        prescaler := 0
        fixTimer := some (s.now + s.route.fixTimeout * 1000000)
        stale := false }
    let others (t : State) : Prop :=
      t.reader = s.reader ∧ t.bus = s.bus ∧ t.roster = s.roster ∧ t.script.bank0 = s.script.bank0
        ∧ t.script.bank1 = s.script.bank1 ∧ t.script.claimant = s.script.claimant
    ((∀ w ∈ s.script.pendingSwitch, ∀ n, 1 ≤ n → n ≤ d → ¬reached w n) →
      ∃ t : State, exec .fix s = .next (t.answer .route .ok 0) ∧ others t
        ∧ t.route = fixed
            { s.route with
              distance := a.a0.toNat
              lap := if s.route.distance ≤ a.a0.toNat then s.route.lap else (s.route.lap + 1) % 16 }
        ∧ t.script.active = s.script.active
        ∧ t.script.pendingSwitch = s.script.pendingSwitch.map (fun w =>
          if s.route.distance ≤ a.a0.toNat then w
          else Claims.lateAt { s.route with distance := 0, lap := (s.route.lap + 1) % 16 } w))
    ∧ (∀ (w : PendingSwitch) (m : Nat), s.script.pendingSwitch = some w → 1 ≤ m → m ≤ d → reached w m →
      (∀ n, 1 ≤ n → n < m → ¬reached w n) →
      ∃ t : State, exec .fix s = .next (t.answer .route .ok 0) ∧ others t
        ∧ (let r := walked m
          let loop := s.script.shadowBank.loopLength
          let b : RouteCounter :=
            if r.distance < loop then { r with loopLength := loop }
            else { r with loopLength := loop, distance := 0, lap := (r.lap + 1) % 16 }
          t.route = fixed (Claims.metreOn^[d - m] b))
        ∧ t.script.active = s.script.active.other ∧ t.script.pendingSwitch = none
        ∧ Claims.pointsBeyond s.script.shadowBank t.route.distance t.script.pointer
        ∧ Claims.noticed s t 0x0008#16)
    ∧ (s.script.pendingSwitch = none → s.route.distance < a.a0.toNat →
      (∀ x ∈ s.queue.entries, x.launchDue (trip d) = false ∧ x.expiryDue (trip d) = false) →
      let b := s.script.activeBank
      let i := s.script.pointer
      ∀ q : CueSlot, i < b.cueCount → b.slots[i]? = some q → s.route.distance < q.w0.toNat → q.w0.toNat ≤ a.a0.toNat →
      (∀ x, i + 1 < b.cueCount → b.slots[i + 1]? = some x → a.a0.toNat < x.w0.toNat) →
      let kind := q.w1.toNat / 8192
      let passed := trip (q.w0.toNat - s.route.distance)
      let expiry := min (passed + q.w3.toNat % 4096) 4294967295
      ∃ t : State, exec .fix s = .next (t.answer .route .ok 0) ∧ t.script.pointer = i + 1
        ∧ (kind = 4 → t.script.markNumber = q.w2.toNat % 256 ∧ t.script.markCount = (s.script.markCount + 1) % 256
          ∧ Claims.noticed s t 0x0004#16)
        ∧ (kind = 3 → ∀ k : Fin 16, q.w2.toNat % 16 = k.val → Claims.sceneApplied s.lights t.lights k)
        ∧ (kind = 2 → s.reader.catalogue = .ready → Claims.obligationsFor s q.w1 ≠ [] → s.queue.entries.length < 16 →
          Safety.Queue s →
          ∃ id : Nat, Claims.isNextId s.queue id ∧ t.queue.lastId = id ∧ Claims.offersNamed t
            ∧ (let e := Claims.cueEntry s q passed id
              (trip d < expiry →
                t.queue.entries = (s.queue.entries.filter fun x => e.cls.rank ≤ x.cls.rank) ++ [e]
                  ++ s.queue.entries.filter fun x => x.cls.rank < e.cls.rank)
              ∧ (expiry ≤ trip d →
                t.queue.entries = s.queue.entries ∧ t.queue.lastEndedId = id ∧ t.queue.lastOutcome = .expired
                  ∧ t.queue.endCount = (s.queue.endCount + 1) % 256
                  ∧ t.ports.counters.expired = min (s.ports.counters.expired + 1) 65535
                  ∧ t.queue.capture =
                    (match s.queue.capture with
                      | some x => some x
                      | none => some ⟨id, q.w2.toNat % 2048, .cue, s.route.lap, q.w0.toNat⟩)))))

/-! ## Master ports (09_master_ports.md) -/

/-- `s` with port `p`'s window `x`, and nothing else changed. -/
def Claims.withPort (s : State) (p : Port) (x : PortState) : State :=
  { s with ports := { s.ports with windows :=
      ⟨if p = .route then x else s.ports.windows.route,
       if p = .crew then x else s.ports.windows.crew,
       if p = .fare then x else s.ports.windows.fare⟩ } }

/-- Neither RESET# nor port `p`'s PRST# is held, so that the port takes its transactions (R197, R198). -/
abbrev Claims.takesWords (s : State) (p : Port) : Prop := s.resetHeld = false ∧ (s.port p).prstHeld = false

/-- The ports that may issue each request code of 1 to 18 (R187). -/
def Claims.rights : List (List Port) :=
  [[.route], [.route, .crew], [.crew], [.crew], [.crew], [.crew], [.crew], [.crew], [.fare], [.fare], [.fare],
    [.route, .crew, .fare], [.route, .crew, .fare], [.route, .crew, .fare], [.route, .crew, .fare],
    [.route, .crew, .fare], [.route, .crew, .fare], [.route, .crew, .fare]]

/-- The requests of codes 1 to 18. -/
def Claims.requests : List RequestKind :=
  [.fix, .announce, .cancel, .liveOn, .liveOff, .scene, .deck, .channelEnable, .assign, .release, .releaseAll,
    .claimShadow, .releaseShadow, .switch, .cancelSwitch, .clearCounters, .clearCapture, .portReset]

/-- Port `p` takes words and is in a write transaction whose next word is register `n`'s (R182, R183). -/
abbrev Claims.atRegister (s : State) (p : Port) (n : BitVec 6) : Prop :=
  Claims.takesWords s p ∧ (s.port p).transaction = .writing n

/-- A write of REQ_CODE stores the code and moves its transaction on to REQ_ARG0. With GO clear it does nothing more.
With GO set and the engine IDLE, a code that names no request ends at once BAD_CODE, a request the port has no right to
issue NO_RIGHT, and any other is handed to its block with the argument words as they stand, the engine being BUSY until
the block answers (R184, R187). The port interface's own two are left to ClearCaptureAndClearCounters and
APortResetClearsThePort. MODEL'S CHOICE: the port interface carries those two out at GO (log entry 11), and a word for a
register that the transaction has not reached is none and changes nothing (log entry 6). -/
def Obligations.GoIssuesTheRequest : Prop :=
  ∀ (s : State) (p : Port) (w : Word),
    let code := w.toNat % 64
    let stored := Claims.withPort s p { s.port p with reqCode := w.extractLsb' 0 6, transaction := .writing 5 }
    (¬Claims.atRegister s p 4 → exec (.registerWrite p 4 w) s = .next s)
    ∧ (Claims.atRegister s p 4 → w.getLsbD 15 = false → exec (.registerWrite p 4 w) s = .next stored)
    ∧ (Claims.atRegister s p 4 → w.getLsbD 15 = true → (s.port p).busy = none →
      (code = 0 ∨ 18 < code → exec (.registerWrite p 4 w) s = .next (stored.answer p .badCode 0))
      ∧ ∀ (k : RequestKind) (may : List Port), Claims.requests[code - 1]? = some k → Claims.rights[code - 1]? = some may →
        1 ≤ code →
        (p ∉ may → exec (.registerWrite p 4 w) s = .next (stored.answer p .noRight 0))
        ∧ (p ∈ may → k ≠ .clearCounters → k ≠ .portReset → exec (.registerWrite p 4 w) s = .next
          (Claims.withPort s p
            { s.port p with
              reqCode := w.extractLsb' 0 6, transaction := .writing 5, busy := some ⟨k, (s.port p).args⟩ })))

/-- A GO while the engine is BUSY stores the code, sets REQ_OVERRUN at the issuing port and does nothing more: the
request in progress goes on with the copy of its arguments, none is queued, and no other port is held back (R185). -/
def Obligations.AGoWhileBusyIsAnOverrun : Prop :=
  ∀ (s : State) (p : Port) (w : Word) (r : Request), Claims.atRegister s p 4 → w.getLsbD 15 = true →
    (s.port p).busy = some r →
    exec (.registerWrite p 4 w) s = .next
      (Claims.withPort s p
        { s.port p with
          reqCode := w.extractLsb' 0 6, transaction := .writing 5, notices := (s.port p).notices ||| 0x0002#16 })

/-- CLEAR_CAPTURE, from any port, empties the capture record, ends with OK and changes nothing else (R124).
CLEAR_COUNTERS, from any port, is carried out at its GO: all 24 shared counters go to 0, the engine is IDLE again and
shows OK (R187, R200). MODEL'S CHOICE: the command CLEAR_COUNTERS is that GO itself, the word of code 16 written to
REQ_CODE (log entry 11). -/
def Obligations.ClearCaptureAndClearCounters : Prop :=
  (∀ (s : State) (p : Port) (a : Args), s.inHand p .clearCapture = some a →
    exec (.clearCapture p) s = .next ({ s with queue := { s.queue with capture := none } }.answer p .ok 0))
    ∧ ∀ (s : State) (p : Port),
      exec (.clearCounters p) s = exec (.registerWrite p 4 0x8010#16) s
        ∧ ∀ c : Instr,
          c = .clearCounters p ∨ (∃ w : Word, c = .registerWrite p 4 w ∧ w.getLsbD 15 = true ∧ w.toNat % 64 = 16) →
          Claims.atRegister s p 4 → (s.port p).busy = none →
          let taken := Claims.withPort s p { s.port p with reqCode := 16, transaction := .writing 5 }
          let zeros : Counters := ⟨Vector.replicate 12 0, Vector.replicate 6 0, 0, 0, 0, 0, 0, 0⟩
          exec c s = .next ({ taken with ports := { taken.ports with counters := zeros } }.answer p .ok 0)

/-- The other writable registers; each word moves its transaction on to the next register number, from 63 to 0, but at
TBL_DATA. The argument words and TBL_POINTER store the word. NOTICES clears the notices written as 1, NOTICE_MASK stores
the mask, PORT_STATUS clears PORT_RESTARTED and DEVICE_RESTARTED where written as 1, and TBL_SELECT sets the table with
pointer 0 and result OK, or sets RANGE for a number that names no table. A write to any other register number is
ignored. While RESET# or the port's PRST# is held every word and transaction is ignored (R182 to R184, R188, R192, R193,
R197, R198). MODEL'S CHOICE: a word for a register that the transaction has not reached, a read word outside a read
transaction, and a first word of POSITION that is none, change nothing (log entry 6), and the command for a register of
its own and REGISTER_WRITE of the word to that register are the same (log entry 30). -/
def Obligations.RegisterWordsAreStoredOrIgnored : Prop :=
  ∀ (s : State) (p : Port) (w : Word),
    let x := s.port p
    let word (c : Instr) (n : BitVec 6) (y : PortState) : Prop :=
      exec c s = exec (.registerWrite p n w) s
        ∧ (¬Claims.atRegister s p n → exec c s = .next s)
        ∧ (Claims.atRegister s p n → exec c s = .next (Claims.withPort s p { y with transaction := .writing (n + 1) }))
    word (.registerWrite p 5 w) 5 { x with args := { x.args with a0 := w } }
    ∧ word (.registerWrite p 6 w) 6 { x with args := { x.args with a1 := w } }
    ∧ word (.registerWrite p 7 w) 7 { x with args := { x.args with a2 := w } }
    ∧ word (.registerWrite p 8 w) 8 { x with args := { x.args with a3 := w } }
    ∧ word (.registerWrite p 12 w) 12 { x with pointer := w.toNat }
    ∧ (∀ n : BitVec 6, n.toNat = 0 ∨ n.toNat = 9 ∨ n.toNat = 10 ∨ 14 ≤ n.toNat → word (.registerWrite p n w) n x)
    ∧ word (.noticesWrite p w) 2 { x with notices := x.notices &&& ~~~w }
    ∧ word (.noticeMaskWrite p w) 3 { x with mask := w }
    ∧ word (.portStatusWrite p w) 1
      { x with
        portRestarted := if w.getLsbD 4 = true then false else x.portRestarted
        deviceRestarted := if w.getLsbD 5 = true then false else x.deviceRestarted }
    ∧ (∀ t : Table, [Table.settings, .shadow, .active, .seats, .channels, .queue, .scenes, .counters, .capture][w.toNat]?
        = some t →
      word (.tblSelectWrite p w) 11 { x with table := t, pointer := 0, access := .ok })
    ∧ (9 ≤ w.toNat → word (.tblSelectWrite p w) 11 { x with access := .range })
    ∧ exec (.tblDataWrite p w) s = exec (.registerWrite p 13 w) s
    ∧ (¬Claims.atRegister s p 13 → exec (.tblDataWrite p w) s = .next s)
    ∧ (¬(Claims.takesWords s p ∧ ∃ n, x.transaction = .reading n) → ∀ b, exec (.tblDataRead p b) s = .next s)
    ∧ (¬(Claims.takesWords s p ∧ x.transaction = .reading 16 ∧ x.snapshot = none) → exec (.positionRead p) s = .next s)
    ∧ (¬Claims.takesWords s p →
      (∀ b, exec (.transactionStart ⟨p, b⟩) s = .next s) ∧ exec (.transactionEnd p) s = .next s)

/-- The value of a word whose fields are given as value, lowest bit and width, and whose other bits are 0. -/
def Claims.packed (fields : List (Nat × Nat × Nat)) : Nat :=
  (fields.map fun f => f.1 % 2 ^ f.2.2 * 2 ^ f.2.1).sum

/-- Word `n` of table `t` as a read gives it. -/
abbrev Claims.entry (s : State) (t : Table) (n : Nat) : Nat := (tableWord s t n).toNat

/-- The words of a bank (Bank words, R202). -/
abbrev Claims.bankShown (s : State) (t : Table) (b : Bank) : Prop :=
  Claims.entry s t 0 = b.loopLength % 65536 ∧ Claims.entry s t 1 = b.cueCount % 65536 ∧ tableWord s t 2 = b.tag
    ∧ Claims.entry s t 3 = 0
    ∧ ∀ (i : Nat) (q : CueSlot), b.slots[i]? = some q →
      tableWord s t (4 + 4 * i) = q.w0 ∧ tableWord s t (5 + 4 * i) = q.w1 ∧ tableWord s t (6 + 4 * i) = q.w2
        ∧ tableWord s t (7 + 4 * i) = q.w3

/-- The words of SEATS (Seat words, R164). -/
abbrev Claims.seatsShown (s : State) : Prop :=
  Claims.entry s .seats 0 = s.roster.changeCount % 256
    ∧ (∀ i : SeatNo,
      let x := s.seat i
      let tag := match x.tag with
        | some v => v.toNat
        | none => 0
      Claims.entry s .seats (1 + 4 * i.val) = Claims.packed
          [([StationState.absent, .joining, .present, .lost].idxOf x.station, 0, 2), (x.plugged.toNat, 2, 1),
            (x.fault.toNat, 3, 1), (if i.val < 64 then 0 else 1, 4, 1),
            (match x.language with
              | some c => c.val
              | none => 15, 5, 4),
            ([AssignedBy.none, .fare, .seat].idxOf x.assignedBy, 9, 2), (x.lock.toNat, 11, 1), (x.tag.isSome.toNat, 12, 1)]
        ∧ Claims.entry s .seats (2 + 4 * i.val) = Claims.packed [(x.volume, 0, 4), (x.effective, 4, 4)]
        ∧ Claims.entry s .seats (3 + 4 * i.val) = tag / 65536 ∧ Claims.entry s .seats (4 + 4 * i.val) = tag % 65536)
    ∧ (∀ c : ChannelNo, Claims.entry s .seats (385 + c.val) = s.roster.census[c] % 65536
      ∧ (tableWord s .seats 397).getLsbD c.val = s.roster.listened[c])
    ∧ Claims.entry s .seats 397 < 4096

/-- The words of CHANNELS (Channel words, R96). -/
abbrev Claims.channelsShown (s : State) : Prop :=
  (∀ c : ChannelNo,
    let ch := s.channel c
    let at' (k : Nat) : Nat := Claims.entry s .channels (7 * c.val + k)
    let ids (playing : Nat) : Nat :=
      Claims.packed [(playing, 8, 8), (match ch.offer with
        | some o => o.id
        | none => 0, 0, 8)]
    at' 0 = ch.label0.toNat * 256 + ch.label1.toNat
      ∧ at' 1 = Claims.packed
        [(ch.enabled.toNat, 15, 1), ([PlayState.quiet, .commentary, .hold, .announce, .live].idxOf ch.playState, 12, 3),
          ([ItemClass.none, .commentary, .standard, .express, .live].idxOf ch.itemClass, 9, 3),
          (match ch.playhead with
            | .none => 0
            | .chain _ => 1
            | .clip _ => 2
            | .mic _ _ => 3, 7, 2),
          (ch.listened.toNat, 6, 1), (ch.stack.length, 4, 2),
          (match ch.stack.head? with
            | none => 0
            | some (.commentary _) => 1
            | some (.announcement _ _) => 2, 2, 2)]
      ∧ at' 5 / 256 = ch.hold % 256
      ∧ match ch.playhead with
        | .none => at' 4 = ids 0
        | .chain k => at' 2 = k.group % 65536 ∧ at' 3 = k.offset % 65536 ∧ at' 4 = ids 0
          ∧ at' 5 = Claims.packed [(ch.hold, 8, 8), (k.walked, 0, 7)] ∧ at' 6 = k.start % 65536
        | .clip cl => at' 2 = cl.group % 65536 ∧ at' 3 = cl.offset % 65536 ∧ at' 4 = ids cl.id
        | .mic id _ => at' 4 = ids id)
    ∧ Claims.entry s .channels 84 = Claims.packed [(match s.engine.deckChannel with
        | some c => c.val
        | none => 255, 8, 8), (s.engine.deckVolume, 0, 4)]

/-- The words of QUEUE (Queue words, R127). -/
abbrev Claims.queueShown (s : State) : Prop :=
  Claims.entry s .queue 0 = Claims.packed [(match s.queue.entries.find? (fun e => e.cls = .live) with
      | some e => e.id
      | none => 0, 8, 8), (s.queue.entries.length, 0, 5)]
    ∧ Claims.entry s .queue 321 = s.queue.endCount % 256
    ∧ ∀ j : Fin 16,
      let at' (k : Nat) : Nat := Claims.entry s .queue (1 + 20 * j.val + k)
      (s.queue.entries.length ≤ j.val → ∀ k < 20, at' k = 0)
      ∧ ∀ e : Entry, s.queue.entries[j.val]? = some e →
        at' 0 = Claims.packed
            [(e.id, 8, 8), ([AnnClass.standard, .express, .live].idxOf e.cls, 6, 2),
              ([Source.cue, .crew, .route].idxOf e.source, 4, 2), (e.flash.toNat, 3, 1), (e.safety.toNat, 2, 1),
              (e.launched.toNat, 1, 1), (e.expiryTaken.isSome.toNat, 0, 1)]
          ∧ at' 1 = (match e.content with
            | .clip g => g % 65536
            | .mic => 65535)
          ∧ at' 2 = Claims.packed
            [(e.launchTrip.isSome.toNat, 15, 1), (match e.expiry with
              | .none => 0
              | .trip _ => 2
              | .seconds _ => 3, 13, 2)]
          ∧ (∀ t ∈ e.launchTrip, at' 3 = t / 65536 % 65536 ∧ at' 4 = t % 65536)
          ∧ (match e.expiry with
            | .none => True
            | .trip t => at' 5 = t / 65536 % 65536 ∧ at' 6 = t % 65536
            | .seconds n => at' 6 = (match e.timer with
              | some t => (t - s.now + 999999) / 1000000
              | none => if e.launched = true then 0 else n) % 65536)
          ∧ ∀ c : ChannelNo, at' (7 + c.val) =
            (match e.obligations.find? fun o => o.channel = c with
              | some o => Claims.packed
                [([ObState.opened, .playing, .cut, .heard, .unheard, .dropped].idxOf o.state + 1, 0, 3),
                  (if o.listenedAtStart = some true then 1 else 0, 3, 1), (if o.cause = some .loss then 1 else 0, 4, 1)]
              | none => 0)

/-- The words of SCENES (Scene words, R181). -/
abbrev Claims.scenesShown (s : State) : Prop :=
  let l := s.lights
  (∀ k : Fin 16, (∀ j : Fin 4, Claims.entry s .scenes (5 * k.val + j.val)
        = Claims.packed [(l.scenes[k].levels[2 * j.val], 8, 8), (l.scenes[k].levels[2 * j.val + 1], 0, 8)])
      ∧ Claims.entry s .scenes (5 * k.val + 4) = Claims.packed [(l.scenes[k].rate, 8, 8), (l.scenes[k].exempt.toNat, 0, 8)])
    ∧ Claims.entry s .scenes 80 = (match l.sceneInForce with
      | some k => k.val
      | none => 65535)
    ∧ Claims.entry s .scenes 81 = Claims.packed [(l.rate, 8, 8), (l.exempt.toNat, 0, 8)]
    ∧ ∀ z : Fin 8, Claims.entry s .scenes (82 + 2 * z.val) = Claims.packed [(l.zones[z].current, 8, 8), (l.zones[z].target, 0, 8)]
      ∧ Claims.entry s .scenes (83 + 2 * z.val) = Claims.packed
        [(l.zones[z].applied, 8, 8), ([ZoneMode.scaled, .exempt, .flash, .safety].idxOf l.zones[z].mode, 0, 2)]

/-- The words of SETTINGS, COUNTERS and CAPTURE (R191, R200, Capture words). -/
abbrev Claims.listsShown (s : State) : Prop :=
  (∀ n v : Nat,
    [s.route.ratio, s.route.jumpWindow, s.route.fixTimeout, s.engine.holdAdvance, s.engine.resumeWindow,
      s.queue.liveLimit, s.engine.chainLimit, s.reader.divider, s.roster.trims[0], s.roster.trims[1], s.roster.trims[2],
      s.roster.trims[3], s.lights.halfPeriod, s.lights.flashMask.toNat, s.lights.dayThreshold, s.lights.nightThreshold,
      s.lights.dayScale, s.lights.duskScale, s.lights.nightScale, (s.port .route).timeout, (s.port .crew).timeout,
      (s.port .fare).timeout, s.reader.storeSize, s.reader.groupCount][n]? = some v →
    Claims.entry s .settings n = v % 65536)
    ∧ (∀ n v : Nat,
      let k := s.ports.counters
      (k.underruns.toList ++ k.framing.toList
        ++ [k.chainErrors, k.cueDrops, k.contextLosses, k.expired, k.unheard, k.cancelled])[n]? = some v →
      Claims.entry s .counters n = v % 65536)
    ∧ match s.queue.capture with
      | none => ∀ n < 3, Claims.entry s .capture n = 0
      | some x =>
        Claims.entry s .capture 0 = Claims.packed [(1, 15, 1), ([Source.cue, .crew, .route].idxOf x.source, 13, 2), (x.id, 0, 8)]
          ∧ Claims.entry s .capture 1 = Claims.packed [(x.lap, 12, 4), (x.group, 0, 10)]
          ∧ Claims.entry s .capture 2 = x.distance % 65536

/-- The length of each table in words. -/
def Claims.tableLength : Table → Nat
  | .settings => 24
  | .shadow => 1028
  | .active => 1028
  | .seats => 398
  | .channels => 85
  | .queue => 322
  | .scenes => 98
  | .counters => 24
  | .capture => 3

/-- A TBL_DATA read in a read transaction, which then stays there, shows the table's word at the pointer and gives OK,
or shows 0 and gives RANGE past the table's end; a completed word moves the pointer on by one, which stops at 65,535. It
changes nothing else. The words of the nine tables are the fields of the blocks that hold them, as laid out for each
table (R96, R124, R127, R164, R181 to R183, R188, R189, R191, R200, R202). MODEL'S CHOICE: a read cut short has set the
access result (log entry 12); TBL_DATA_READ is taken at any place of a read transaction, and stands for the words before
it too (log entry 6); a LAUNCHED entry whose expiry timer has stopped shows 0 seconds (log entry 25); a word to which
the manual gives no value is left free, each read counts in the model's own count, and a channel that plays no entry
shows id 0 (log entry 5). -/
def Obligations.ATableReadShowsTheWord : Prop :=
  (∀ (s : State) (p : Port) (n : BitVec 6), Claims.takesWords s p → (s.port p).transaction = .reading n →
    let x := s.port p
    let within := x.pointer < Claims.tableLength x.table
    readRegister s p 13 = (if within then tableWord s x.table x.pointer else 0)
    ∧ ∀ completed : Bool, exec (.tblDataRead p completed) s = .next
      { Claims.withPort s p
          { x with
            transaction := .reading 13
            access := if within then .ok else .range
            pointer := if completed = false then x.pointer else if x.pointer < 65535 then x.pointer + 1 else 65535 } with
        freeReads := s.freeReads + 1 })
    ∧ ∀ s : State, Claims.bankShown s .shadow s.script.shadowBank ∧ Claims.bankShown s .active s.script.activeBank
      ∧ Claims.seatsShown s ∧ Claims.channelsShown s ∧ Claims.queueShown s ∧ Claims.scenesShown s ∧ Claims.listsShown s

/-- A TBL_DATA write past the table's end gives RANGE, by a port without the right NO_RIGHT, to the SHADOW table
during a pending switch LOCKED, and of a value outside the word's values VALUE, in that order, and changes no table;
the pointer moves on whatever the result (R21, R188 to R191, R203). The right is the claimant's in SHADOW, the owner's
for a setting, CREW's for a label and a scene record's word, and nobody's elsewhere. -/
def Obligations.ARefusedTableWriteChangesNothing : Prop :=
  ∀ (s : State) (p : Port) (w : Word), Claims.atRegister s p 13 →
    let x := s.port p
    let n := x.pointer
    let right : Prop :=
      match x.table with
      | .settings => (n ≤ 2 ∨ n = 19) ∧ p = .route ∨ (3 ≤ n ∧ n ≤ 18 ∨ n = 20) ∧ p = .crew ∨ n = 21 ∧ p = .fare
      | .shadow => s.script.claimant = some p
      | .channels => p = .crew ∧ n < 84 ∧ n % 7 = 0
      | .scenes => p = .crew ∧ n < 80
      | _ => False
    let refused (r : Access) : Prop :=
      exec (.tblDataWrite p w) s = .next
        (Claims.withPort s p { x with access := r, pointer := if n < 65535 then n + 1 else 65535 })
    (Claims.tableLength x.table ≤ n → refused .range)
    ∧ (n < Claims.tableLength x.table → ¬right → refused .noRight)
    ∧ (n < Claims.tableLength x.table → right → x.table = .shadow → s.script.pendingSwitch.isSome → refused .locked)
    ∧ (x.table = .shadow → right → s.script.pendingSwitch = none → n = 1 → 256 < w.toNat → refused .value)
    ∧ (x.table = .channels → right → w.toNat / 256 < 0x20 ∨ 0x7E < w.toNat / 256 ∨ w.toNat % 256 < 0x20
        ∨ 0x7E < w.toNat % 256 → refused .value)
    ∧ (x.table = .settings → right →
        (match n with
          | 0 => w.toNat ∉ [1, 2, 4, 8, 16, 32, 64, 128, 256]
          | 1 => 1000 < w.toNat
          | 2 => w.toNat = 0 ∨ 120 < w.toNat
          | 3 => 255 < w.toNat
          | 4 => 120 < w.toNat
          | 5 => w.toNat < 10 ∨ 300 < w.toNat
          | 6 => w.toNat = 0 ∨ 64 < w.toNat
          | 7 => w.toNat ∉ [1, 2, 4, 8]
          | 8 | 9 | 10 | 11 => 3 < w.toNat
          | 12 => w.toNat < 100 ∨ 1000 < w.toNat ∨ w.toNat % 50 ≠ 0
          | 13 => False
          | 14 | 15 => 1023 < w.toNat
          | 16 | 17 | 18 => 256 < w.toNat
          | _ => 60 < w.toNat) → refused .value)

/-- What an accepted write `w` of SETTINGS word `n` by port `p` leaves of everything but the ports: the setting takes
the value. The odometer ratio clears the prescaler too (R4); a trim recomputes every effective volume (R162, R163); the
flash mask and the three scales recompute every pending level (R167, R175, R177); any other setting is used from then on
(R191). -/
abbrev Claims.settingTaken (s t : State) (n v : Nat) (w : Word) : Prop :=
  (n ≤ 2 → { t with route := s.route, ports := s.ports } = s
      ∧ t.route =
        { s.route with
          ratio := if n = 0 then v else s.route.ratio
          prescaler := if n = 0 then 0 else s.route.prescaler
          jumpWindow := if n = 1 then v else s.route.jumpWindow
          fixTimeout := if n = 2 then v else s.route.fixTimeout })
    ∧ (n = 3 ∨ n = 4 ∨ n = 6 → { t with engine := s.engine, ports := s.ports } = s
      ∧ t.engine =
        { s.engine with
          holdAdvance := if n = 3 then v else s.engine.holdAdvance
          resumeWindow := if n = 4 then v else s.engine.resumeWindow
          chainLimit := if n = 6 then v else s.engine.chainLimit })
    ∧ (n = 5 → { t with ports := s.ports } = { s with queue := { s.queue with liveLimit := v } })
    ∧ (n = 7 → { t with ports := s.ports } = { s with reader := { s.reader with divider := v } })
    ∧ (∀ b : Fin 4, n = 8 + b.val → { t with roster := s.roster, ports := s.ports } = s
      ∧ t.roster = { s.roster with trims := s.roster.trims.set b v, seats := t.roster.seats }
      ∧ ∀ i : SeatNo, t.seat i =
        { s.seat i with
          effective := if i.val < 64 then
              min ((s.seat i).volume + (if s.roster.band = b then v else s.roster.trims[s.roster.band])) 15
            else (s.seat i).volume })
    ∧ (n = 12 ∨ n = 14 ∨ n = 15 → { t with ports := s.ports } =
      { s with lights :=
          { s.lights with
            halfPeriod := if n = 12 then v else s.lights.halfPeriod
            dayThreshold := if n = 14 then v else s.lights.dayThreshold
            nightThreshold := if n = 15 then v else s.lights.nightThreshold } })
    ∧ (n = 13 ∨ 16 ≤ n ∧ n ≤ 18 → { t with lights := s.lights, ports := s.ports } = s
      ∧ Claims.settledFrom
        { s.lights with
          flashMask := if n = 13 then w.extractLsb' 0 8 else s.lights.flashMask
          dayScale := if n = 16 then v else s.lights.dayScale
          duskScale := if n = 17 then v else s.lights.duskScale
          nightScale := if n = 18 then v else s.lights.nightScale } t.lights)
    ∧ (19 ≤ n → { t with ports := s.ports } = s)

/-- An accepted TBL_DATA write. The access result is OK, the pointer moves on, and at the port nothing more changes, but
that a silence timeout restarts the port's silence timer with it, or stops it for 0. Every SETTINGS word, written with a
value of its setting by its owner, then reads as written (the flash mask by its low eight bits), and its block takes it
with the effect it has there. A label goes into its channel's record and a scene word into its record, and nothing else
of them moves; a word of the SHADOW table goes into the shadow bank alone, and reads as written but for the reserved
header word, which reads 0 (R4, R20, R21, R68, R162, R163, R167, R168, R175, R177, R188, R189, R191, R194, R202). -/
def Obligations.AnAcceptedTableWriteIsStored : Prop :=
  ∀ (s : State) (p : Port) (w : Word), Claims.atRegister s p 13 →
    let x := s.port p
    let n := x.pointer
    judgeWrite s p x.table n w = .ok →
    ∃ t, exec (.tblDataWrite p w) s = .next t
      ∧ t.ports = (Claims.withPort s p
        (if x.table = .settings ∧ 19 ≤ n then
          { x with
            access := .ok, pointer := n + 1, timeout := w.toNat
            silenceTimer := if w.toNat = 0 then none else some (s.now + w.toNat * 1000000) }
        else { x with access := .ok, pointer := n + 1 })).ports
      ∧ (x.table = .settings → settingWord t n = (if n = 13 then w &&& 0x00FF#16 else w)
        ∧ (∀ m, m ≠ n → settingWord t m = settingWord s m)
        ∧ Claims.settingTaken s t n w.toNat w)
      ∧ (x.table = .shadow →
        (∀ m, m < 1028 → t.script.shadowBank.tableWord m =
          (if m = n then (if n = 3 then 0 else w) else s.script.shadowBank.tableWord m))
        ∧ t.script.activeBank = s.script.activeBank ∧ t.script.claimant = s.script.claimant
        ∧ t.script.pendingSwitch = s.script.pendingSwitch ∧ t.script.active = s.script.active
        ∧ { t with script := s.script, ports := s.ports } = s)
      ∧ (x.table = .channels → ∀ c : ChannelNo, n = 7 * c.val →
        t.channel c = { s.channel c with label0 := w.extractLsb' 8 8, label1 := w.extractLsb' 0 8 }
          ∧ (∀ d, d ≠ c → t.channel d = s.channel d) ∧ { t with engine := s.engine, ports := s.ports } = s)
      ∧ (x.table = .scenes →
        (∀ m, m < 80 → t.lights.tableWord m = (if m = n then w else s.lights.tableWord m))
          ∧ { t.lights with scenes := s.lights.scenes } = s.lights ∧ { t with lights := s.lights, ports := s.ports } = s)

/-- The register words that a master reads, each at every port the state as it stands: the port's own status, notices,
mask, request and cursor words; the route words, which a read transaction that starts at POSITION takes as one snapshot
and reads from it; and the words of the script unit, the queue, the store reader and the light controller. GO reads as
clear, a port's own state as ACTIVE, and a register number that is not defined as 0 (R17, R42, R43, R65, R121, R181,
R183, R184, R188, R192, R193, R195). -/
def Obligations.RegisterWordsShowTheState : Prop :=
  ∀ (s : State) (p : Port),
    let x := s.port p
    let at' (n : Nat) : Nat := (readRegister s p n).toNat
    let silent (q : Port) : Nat := if q ≠ p ∧ (s.port q).silent = true then 1 else 0
    at' 1 = Claims.packed
        [([Access.ok, .noRight, .range, .value, .locked].idxOf x.access, 0, 3), (x.portRestarted.toNat, 4, 1),
          (x.deviceRestarted.toNat, 5, 1), (silent .route, 8, 1), (silent .crew, 9, 1), (silent .fare, 10, 1)]
    ∧ readRegister s p 2 = x.notices ∧ readRegister s p 3 = x.mask ∧ at' 4 = x.reqCode.toNat
    ∧ readRegister s p 5 = x.args.a0 ∧ readRegister s p 6 = x.args.a1 ∧ readRegister s p 7 = x.args.a2
    ∧ readRegister s p 8 = x.args.a3
    ∧ at' 9 = Claims.packed
        [(x.busy.isSome.toNat, 15, 1),
          ([ResultCode.ok, .badCode, .noRight, .badArgument, .queueFull, .held, .notHolder, .locked, .scriptInvalid,
            .liveActive, .noLive, .noSuchEntry, .notReady].idxOf x.result, 0, 4)]
    ∧ readRegister s p 10 = x.detail
    ∧ at' 11 = [Table.settings, .shadow, .active, .seats, .channels, .queue, .scenes, .counters, .capture].idxOf x.table
    ∧ at' 12 = x.pointer % 65536
    ∧ (∀ shot ∈ x.snapshot, readRegister s p 16 = shot.position ∧ readRegister s p 17 = shot.status
      ∧ readRegister s p 18 = shot.tripHigh ∧ readRegister s p 19 = shot.tripLow)
    ∧ (x.snapshot = none →
      at' 16 = s.route.distance % 65536
      ∧ at' 17 = Claims.packed
        [(if s.script.activeBank.loopLength = 0 then 1 else 0, 15, 1), (s.route.stale.toNat, 14, 1),
          (s.route.band.val, 12, 2), (s.route.lap, 8, 4), (s.route.speed, 0, 8)]
      ∧ at' 18 = s.route.trip / 65536 % 65536 ∧ at' 19 = s.route.trip % 65536
      ∧ (Claims.takesWords s p → x.transaction = .reading 16 → exec (.positionRead p) s = .next
        (Claims.withPort s p
          { x with
            snapshot := some ⟨readRegister s p 16, readRegister s p 17, readRegister s p 18, readRegister s p 19⟩ })))
    ∧ at' 20 = Claims.packed
        ([([BankId.bank0, .bank1].idxOf s.script.active, 0, 1),
          ([none, some Port.route, some .crew, some .fare].idxOf s.script.claimant, 1, 2)]
        ++ match s.script.pendingSwitch with
          | some w => [(1, 3, 1), (w.lap, 4, 4), (w.lateLaps, 8, 4)]
          | none => [])
    ∧ at' 21 = (match s.script.pendingSwitch with
      | some w => w.position
      | none => 0) % 65536
    ∧ at' 22 = Claims.packed [(s.script.markCount, 8, 8), (s.script.markNumber, 0, 8)]
    ∧ at' 23 = Claims.packed
        [([EndOutcome.none, .played, .expired, .unheard, .cancelled].idxOf s.queue.lastOutcome, 13, 3),
          (s.queue.lastEndedId, 5, 8), (s.queue.endCount, 0, 5)]
    ∧ (s.reader.divider ∈ [1, 2, 4, 8] → at' 24 = Claims.packed
        [([Catalogue.loading, .ready, .bad].idxOf s.reader.catalogue, 0, 2),
          ([BadReason.none, .signature, .version, .size, .groups].idxOf s.reader.badReason, 2, 3),
          ([1, 2, 4, 8].idxOf s.reader.divider, 5, 2), (s.reader.inFlight.isSome.toNat, 7, 1)])
    ∧ at' 25 = Claims.packed
        [(s.lights.sample, 0, 10), (s.lights.run.toNat, 10, 1),
          ([Ambient.day, .dusk, .night].idxOf s.lights.ambient, 11, 2), (s.lights.flashActive.toNat, 13, 1),
          (s.lights.safetyActive.toNat, 14, 1), (s.lights.phaseOn.toNat, 15, 1)]
    ∧ ∀ n, n = 14 ∨ n = 15 ∨ 26 ≤ n → readRegister s p n = 0

/-- The ID register reads 6121h at every port and in every state, and a write to it changes nothing but the register its
transaction has reached (R199). -/
def Obligations.TheIdReadsTheSameEverywhere : Prop :=
  (∀ (s : State) (p : Port), readRegister s p 0 = 0x6121#16)
    ∧ ∀ (s : State) (p : Port) (w : Word), ∃ x : Transaction,
      exec (.registerWrite p 0 w) s = .next (Claims.withPort s p { s.port p with transaction := x })

/-- CS# falling begins a transaction: the port is ACTIVE and the silence timer restarts with the timeout in force unless
that is 0; a SILENT port's return raises PORT_SILENT at the two others. The address byte's top bit makes it a read
transaction, or a write transaction with that bit 0, and its low six bits are the register number it starts at; the
other bit is ignored. A transaction that ends part-way through its address byte reaches no register. CS# rising ends it,
and the snapshot goes (R17, R182, R194, R195). MODEL'S CHOICE: the address byte is an operand of the opening, and an
opening within a transaction begins it anew (log entry 12). -/
def Obligations.TransactionsBeginAndEnd : Prop :=
  ∀ (s : State) (p : Port), Claims.takesWords s p →
    (∀ b : Option Byte, ∃ t, exec (.transactionStart ⟨p, b⟩) s = .next t
      ∧ t.port p =
          { s.port p with
            silent := false, snapshot := none
            transaction := (match b with
              | none => .unaddressed
              | some a =>
                if 128 ≤ a.toNat then .reading (BitVec.ofNat 6 (a.toNat % 64)) else .writing (BitVec.ofNat 6 (a.toNat % 64)))
            silenceTimer := if (s.port p).timeout = 0 then none else some (s.now + (s.port p).timeout * 1000000) }
      ∧ (∀ q, q ≠ p → t.port q =
          { s.port q with
            notices := if (s.port p).silent = true ∧ (s.port q).prstHeld = false then (s.port q).notices ||| 0x4000#16
              else (s.port q).notices })
      ∧ { t with ports := { t.ports with windows := s.ports.windows } } = s)
    ∧ exec (.transactionEnd p) s = .next
        (Claims.withPort s p { s.port p with transaction := .idle, snapshot := none })

/-- The register number `k` words on from register `n` in one transaction: one further with each word, wrapping from 63
to 0, but no further than TBL_DATA (R183). -/
def Claims.wordsOn (n k : Nat) : Nat :=
  if n ≤ 13 then min (n + k) 13 else if n + k < 64 then n + k else min (n + k - 64) 13

/-- The pins the part drives. A sample byte expands to the magnitude (step + 16) × 2 to the power of the segment, minus
16, negative when the sign bit is set; a channel's slot carries silence, the samples of its block, or the microphone's
limited to ±3,952; the deck output carries the deck channel's, times the deck volume over 15 and rounded toward zero, or
silence (R50, R74, R95, R130). LZz drives the applied level (R166). The clip-store pins carry the address and count of
the read in flight, and float while RESET# is held (R44, R55, R64). A segment's driver enable is asserted for the seven
bytes of a POLL and released when the last has been sent, and while RESET# is held (R129, R132, R147). SDO floats while
CS# is high and while RESET# or PRST# is held; it is low during the address byte and in a write transaction, and carries each
read word as its register stands at that moment, word after word (R182, R183, R197, R198). MODEL'S CHOICE: the
microphone's samples are an operand, the waveforms inside a period, frame or byte are left out (log entry 7),
and a POLL is being sent until the model's clock stands at its end (log entry 2). -/
def Obligations.OutputsAndPins : Prop :=
  (∀ b : Byte,
    let magnitude : Int := (b.toNat % 16 + 16) * 2 ^ (b.toNat / 16 % 8) - 16
    expand b = (if 128 ≤ b.toNat then -magnitude else magnitude) ∧ 0 ≤ magnitude ∧ magnitude ≤ 3952)
    ∧ (∀ (s : State) (mic : List (BitVec 16)) (c : ChannelNo), slotSamples s mic c =
      match (s.channel c).output with
      | .silence => List.replicate 512 0
      | .samples xs => xs
      | .microphone => mic.map fun m => if m.toInt < -3952 then -3952 else if 3952 < m.toInt then 3952 else m.toInt)
    ∧ (∀ (s : State) (mic : List (BitVec 16)), deckSamples s mic =
      match s.engine.deckOutChannel with
      | none => List.replicate 512 0
      | some c => (slotSamples s mic c).map fun x =>
        if 0 ≤ x then x * s.engine.deckOutVolume / 15 else -(-x * s.engine.deckOutVolume / 15))
    ∧ (∀ (s : State) (z : Fin 8), zonePin s z = s.lights.zones[z].applied)
    ∧ (∀ s : State,
      (s.resetHeld = true → storePins s = .floating
        ∧ (∀ g, segmentSends s g = none ∧ driverEnable s g = false) ∧ ∀ p k, sdoPin s p k = .floating)
      ∧ (s.resetHeld = false → s.reader.inFlight = none → storePins s = .idle)
      ∧ (s.resetHeld = false → ∀ r, s.reader.inFlight = some r → storePins s = .reading r.address r.count)
      ∧ (s.resetHeld = false → ∀ g : SegmentNo,
        ((s.segment g).poll = none → segmentSends s g = none ∧ driverEnable s g = false)
        ∧ ∀ w, (s.segment g).poll = some w →
          (s.now < w.opens → segmentSends s g = some w.frame ∧ driverEnable s g = true)
          ∧ (w.opens ≤ s.now → segmentSends s g = none ∧ driverEnable s g = false)))
    ∧ ∀ (s : State) (p : Port),
      ((s.port p).prstHeld = true ∨ (s.port p).transaction = .idle → ∀ k, sdoPin s p k = .floating)
      ∧ (Claims.takesWords s p →
        ((s.port p).transaction = .unaddressed ∨ (∃ n, (s.port p).transaction = .writing n) → ∀ k, sdoPin s p k = .low)
        ∧ ∀ n, (s.port p).transaction = .reading n → sdoPin s p none = .low
          ∧ ∀ k < 64, sdoPin s p (some k) = .word (readRegister s p (Claims.wordsOn n.toNat k)))

/-- The claim after port `p` loses what it holds (R24). -/
def Claims.claimWithout (s : State) (p : Port) : Option Port :=
  if s.script.claimant = some p then none else s.script.claimant

/-- The silence timer's expiry makes the port SILENT with its timer stopped, ends its shadow claim, ends the LIVE entry
if the port is CREW, and raises PORT_SILENT at the two other ports; the port keeps its cursor, its mask and its request
in hand, and no route, store, seat or lighting state moves (R24, R118, R194). MODEL'S CHOICE: the clock stands at the
timer's moment at least (log entry 2), and a stopped timer does not expire (log entry 3). -/
def Obligations.SilenceEndsWhatThePortHolds : Prop :=
  ∀ (s : State) (p : Port),
    ((s.port p).silenceTimer = none → exec (.silenceTimerExpiry p) s = .next s)
    ∧ ∀ at' : Nat, (s.port p).silenceTimer = some at' → Safety.Queue s →
      ∃ t, exec (.silenceTimerExpiry p) s = .next t
        ∧ (t.port p).silent = true ∧ (t.port p).silenceTimer = none ∧ (t.port p).busy = (s.port p).busy
        ∧ (t.port p).mask = (s.port p).mask ∧ (t.port p).table = (s.port p).table
        ∧ (t.port p).pointer = (s.port p).pointer ∧ (t.port p).timeout = (s.port p).timeout
        ∧ (∀ q, q ≠ p → (s.port q).prstHeld = false → (t.port q).notices &&& 0x4000#16 = 0x4000#16)
        ∧ t.script = { s.script with claimant := Claims.claimWithout s p }
        ∧ (p ≠ .crew → t.queue = s.queue ∧ t.engine = s.engine)
        ∧ (p = .crew → (∀ e ∈ t.queue.entries, e.cls ≠ .live)
          ∧ t.queue.entries = s.queue.entries.filter fun e => e.cls ≠ .live)
        ∧ t.route = s.route ∧ t.reader = s.reader ∧ t.bus = s.bus ∧ t.roster = s.roster ∧ t.lights = s.lights
        ∧ t.now = max s.now at'

/-- A port's registers after steps 1 and 2 of R196; the rest of its window is `x`'s. -/
def Claims.cleared (x : PortState) : PortState :=
  { x with
    busy := none, notices := 0, mask := 0xFFFF#16, reqCode := 0, args := ⟨0, 0, 0, 0⟩, result := .ok, detail := 0
    table := .settings, pointer := 0, access := .ok }

/-- PORT_RESET, and the fall of PRST#, withdraw the port's request, clear its registers, end its claim and, for CREW,
the LIVE entry; PORT_RESET and the release of PRST# then restart the silence timer of an ACTIVE port whose timeout is
not 0 and set PORT_RESTARTED, and PORT_RESET, carried out at its GO, ends with OK, the transaction going on. While PRST#
is held the timer is stopped, no transaction goes on and no notice is kept. Of the queue no entry but the LIVE one
leaves, and neither the route, the banks, the store reader, the seat bus, the roster, the lights nor another port's
claim moves (R24, R118, R187, R196, R197). MODEL'S CHOICE: the command PORT_RESET is the GO of code 18 itself (log entry
11); the port whose PRST# falls keeps no notice of the page that ends (log entry 21); its transaction has ended, and is
not taken up again at the release (log entry 38); under RESET# a release moves only the pin's level (log entry 29); an
edge to the level the pin has is none (log entry 3). -/
def Obligations.APortResetClearsThePort : Prop :=
  (∀ (s : State) (p : Port), exec (.portReset p) s = exec (.registerWrite p 4 0x8012#16) s)
    ∧ (∀ (s : State) (p : Port) (c : Instr),
      c = .portReset p ∨ (∃ w : Word, c = .registerWrite p 4 w ∧ w.getLsbD 15 = true ∧ w.toNat % 64 = 18) →
      Claims.atRegister s p 4 → (s.port p).busy = none → Safety.Queue s →
      ∃ t, exec c s = .next t
        ∧ { t.port p with notices := 0 } =
            { Claims.cleared (s.port p) with
              transaction := .writing 5
              portRestarted := true
              silenceTimer := if (s.port p).silent = true then (s.port p).silenceTimer
                else if (s.port p).timeout = 0 then none else some (s.now + (s.port p).timeout * 1000000) }
        ∧ (t.port p).notices &&& 0x0001#16 = 0x0001#16
        ∧ t.script = { s.script with claimant := Claims.claimWithout s p }
        ∧ t.queue.entries = (if p = .crew then s.queue.entries.filter fun e => e.cls ≠ .live else s.queue.entries)
        ∧ t.route = s.route ∧ t.reader = s.reader ∧ t.bus = s.bus ∧ t.roster = s.roster ∧ t.lights = s.lights)
    ∧ (∀ (s : State) (p : Port), (s.port p).prstHeld = false → Safety.Queue s →
      ∃ t, exec (.prstAssert p) s = .next t
        ∧ t.port p =
            { Claims.cleared (s.port p) with
              prstHeld := true, silenceTimer := none, transaction := .idle, snapshot := none }
        ∧ t.script = { s.script with claimant := Claims.claimWithout s p }
        ∧ t.queue.entries = (if p = .crew then s.queue.entries.filter fun e => e.cls ≠ .live else s.queue.entries)
        ∧ t.route = s.route ∧ t.reader = s.reader ∧ t.bus = s.bus ∧ t.roster = s.roster ∧ t.lights = s.lights)
    ∧ (∀ (s : State) (p : Port), (s.port p).prstHeld = true → s.resetHeld = false →
      exec (.prstRelease p) s = .next
        (Claims.withPort s p
          { s.port p with
            prstHeld := false
            portRestarted := true
            silenceTimer := if (s.port p).silent = true then (s.port p).silenceTimer
              else if (s.port p).timeout = 0 then none else some (s.now + (s.port p).timeout * 1000000) }))
    ∧ (∀ (s : State) (p : Port), (s.port p).prstHeld = true → s.resetHeld = true →
      exec (.prstRelease p) s = .next (Claims.withPort s p { s.port p with prstHeld := false }))
    ∧ ∀ (s : State) (p : Port), ((s.port p).prstHeld = true → exec (.prstAssert p) s = .next s)
      ∧ ((s.port p).prstHeld = false → exec (.prstRelease p) s = .next s)

/-! ## What every step keeps -/

/-- The route point lies within the loop in force, which is the active bank's, the lap within 0 to 15 and the trip
distance within its maximum; the pointer names the first cue beyond the distance; the fix timer runs exactly while
STALE is clear; and a pending switch leaves a loop of 100 m or more in the shadow bank (R1, R2, R6, R15, R26, R34). -/
def Obligations.EveryStepKeepsTheRouteLawful : Prop :=
  ∀ s t : State, Safety.Route s → Safety.Pointer s → Safety.Fix s → step s = .next t →
    Safety.Route t ∧ Safety.Pointer t ∧ Safety.Fix t

/-- The queue holds at most sixteen entries with unlike ids from 1 to 255, in queue order, with at most one of MIC
content, and each entry owes a channel at most one obligation, in channel number order (R97 to R100). No launch and no
distance expiry that the trip distance has reached stands untaken (R109, R110). A LIVE entry is in the queue exactly
while the live timer runs, and only while CREW is ACTIVE and not held by PRST# (R117, R118). A held port has no request
in hand, no notice, no running silence timer and no transaction, and a request in hand is one its port may issue and not
one the port interface carries out at GO (R187, R196, R197). -/
def Obligations.EveryStepKeepsTheQueueAndThePage : Prop :=
  ∀ s t : State, Safety.Queue s → Safety.Judged s → Safety.Live s → Safety.Ports s → step s = .next t →
    Safety.Queue t ∧ Safety.Judged t ∧ Safety.Live t ∧ Safety.Ports t

/-- A resume stack holds at most two contexts, at most one of them commentary and that one at the bottom, and is empty
in QUIET, COMMENTARY and HOLD; play state, item class and playhead name one kind of item (R69, R75, R87). A disabled
channel holds nothing (R66, R67). Every enabled channel's offer is the first LAUNCHED entry that owes it a start, and
HOLD is the state of commentary that a STANDARD entry waits for (R78, R84, R104). -/
def Obligations.EveryStepKeepsTheChannelsLawful : Prop :=
  ∀ s t : State, Safety.Queue s → Safety.Stacks s → Safety.Disabled s → Safety.Offers s → Safety.Hold s →
    step s = .next t → Safety.Stacks t ∧ Safety.Disabled t ∧ Safety.Offers t ∧ Safety.Hold t

/-- A PLAYING obligation's channel is enabled and plays its entry, so that a channel has at most one (R101); a CUT
obligation is a clip's, and its channel is enabled with a context of the entry on its resume stack (R86, R87, R119);
FLASH and SAFETY stand as the PLAYING obligations say, and the light controller reaches them by the changes handed on to
it (R125, R126, R176, R178). -/
def Obligations.EveryStepKeepsPlayingAndSignals : Prop :=
  ∀ s t : State, Safety.Queue s → Safety.Stacks s → Safety.Offers s → Safety.Playing s → Safety.Cut s →
    Safety.Signals s → step s = .next t → Safety.Playing t ∧ Safety.Cut t ∧ Safety.Signals t

/-- Every census counts its listeners, LISTENED follows census and deck channel in roster and channel engine alike,
the roster mirrors every station, a locked seat has a language assigned by FARE, volumes lie within 0 to 15 and
effective volumes carry the trim of the band (R76, R140, R151, R155, R157 to R159, R162). -/
def Obligations.EveryStepKeepsTheCensus : Prop :=
  ∀ s t : State, Safety.Census s → Safety.Seats s → Safety.Mirror s → step s = .next t →
    Safety.Census t ∧ Safety.Seats t ∧ Safety.Mirror t

/-- The buffer an audio read in flight fills is reader-owned, and header values stand only while the catalogue is
READY, within their ranges (R45, R46, R61, R65); miss counts and cursors stay within theirs, and a poll is in flight
only within a cycle (R131, R132, R136). Every zone's pending level and mode are those of the first case of R167; the
current, target, pending and applied levels of every zone and the levels of every scene lie within 0 to 255, and the
scales within 0 to 256; and the half-period timer runs exactly while FLASH is active (R165 to R167, R175, R176). -/
def Obligations.EveryStepKeepsReaderBusAndZonesLawful : Prop :=
  ∀ s t : State, Safety.Reader s → Safety.Bus s → Safety.Levels s → Safety.FlashTimer s → step s = .next t →
    Safety.Reader t ∧ Safety.Bus t ∧ Safety.Levels t ∧ Safety.FlashTimer t

/-- While RESET# is held the part stays at its reset values, but for the PRST# pins, whatever commands come (R198).
MODEL'S CHOICE: an edge of PRST# under RESET# moves only the pin's level, with no PORT_RESTARTED (log entry 29), and the
clock stands (log entry 2). -/
def Obligations.EveryStepKeepsAHeldPartReset : Prop :=
  ∀ s t : State, Safety.Held s → step s = .next t → Safety.Held t

/-- Every invariant holds of the machine right after reset and of the machine while RESET# is held (log entry 1). -/
def Obligations.ResetIsSafe : Prop := Safe State.reset ∧ Safe State.held
end

