-- ==== Sys2Proof/Laws/Word.lean ====
section
/-!
SUPPORT. What reading a fixed-length table gives after each of the element-wise maps of Word.lean.
-/
namespace Sys2Proof

variable {α β : Type} {n : Nat}

@[simp] theorem vmap_get (f : α → β) (v : Vector α n) (i : Nat) (h : i < n) : (vmap f v)[i] = f v[i] := by
  simp [vmap, Vector.getElem_mk]

@[simp] theorem vmapIdx_get (f : Fin n → α → β) (v : Vector α n) (i : Nat) (h : i < n) :
    (vmapIdx f v)[i] = f ⟨i, h⟩ v[i] := by
  simp [vmapIdx, Vector.getElem_mk]

@[simp] theorem vtab_get (f : Fin n → β) (i : Nat) (h : i < n) : (vtab f)[i] = f ⟨i, h⟩ := by
  simp [vtab, Vector.getElem_mk]

/-- Reading after `vmod`: the changed place, or another place unchanged. -/
theorem vmod_get (v : Vector α n) (i : Fin n) (f : α → α) (j : Nat) (h : j < n) :
    (vmod v i f)[j] = if i.val = j then f v[j] else v[j] := by
  unfold vmod
  rw [Vector.getElem_set]
  split
  · rename_i h'; subst h'; rfl
  · rfl

@[simp] theorem vmod_get_self (v : Vector α n) (i : Fin n) (f : α → α) : (vmod v i f)[i] = f v[i] := by
  show (vmod v i f)[i.val] = f v[i.val]
  rw [vmod_get, if_pos rfl]

theorem vmod_get_ne (v : Vector α n) (i j : Fin n) (f : α → α) (h : j ≠ i) : (vmod v i f)[j] = v[j] := by
  show (vmod v i f)[j.val] = v[j.val]
  rw [vmod_get, if_neg]
  intro e; exact h (Fin.ext e.symm)

end Sys2Proof
end

