-- ==== Sys2Proof/Laws/State.lean ====
section
/-!
SUPPORT. What each update of State leaves as it was, one lemma for each field and update, and what the accessors of
ports, channels, stations and segments read after the updates of their own tables.
-/
namespace Sys2Proof.Machine

variable (s : State)

/-! ## State.reach -/

@[simp] theorem State.reach_pending (t : Nat) : (s.reach t).pending = s.pending := rfl
@[simp] theorem State.reach_resetHeld (t : Nat) : (s.reach t).resetHeld = s.resetHeld := rfl
@[simp] theorem State.reach_freeReads (t : Nat) : (s.reach t).freeReads = s.freeReads := rfl
@[simp] theorem State.reach_route (t : Nat) : (s.reach t).route = s.route := rfl
@[simp] theorem State.reach_script (t : Nat) : (s.reach t).script = s.script := rfl
@[simp] theorem State.reach_reader (t : Nat) : (s.reach t).reader = s.reader := rfl
@[simp] theorem State.reach_engine (t : Nat) : (s.reach t).engine = s.engine := rfl
@[simp] theorem State.reach_queue (t : Nat) : (s.reach t).queue = s.queue := rfl
@[simp] theorem State.reach_bus (t : Nat) : (s.reach t).bus = s.bus := rfl
@[simp] theorem State.reach_roster (t : Nat) : (s.reach t).roster = s.roster := rfl
@[simp] theorem State.reach_lights (t : Nat) : (s.reach t).lights = s.lights := rfl
@[simp] theorem State.reach_ports (t : Nat) : (s.reach t).ports = s.ports := rfl

/-! ## State.tick -/

@[simp] theorem State.tick_pending : (s.tick).pending = s.pending := rfl
@[simp] theorem State.tick_resetHeld : (s.tick).resetHeld = s.resetHeld := rfl
@[simp] theorem State.tick_freeReads : (s.tick).freeReads = s.freeReads := rfl
@[simp] theorem State.tick_route : (s.tick).route = s.route := rfl
@[simp] theorem State.tick_script : (s.tick).script = s.script := rfl
@[simp] theorem State.tick_reader : (s.tick).reader = s.reader := rfl
@[simp] theorem State.tick_engine : (s.tick).engine = s.engine := rfl
@[simp] theorem State.tick_queue : (s.tick).queue = s.queue := rfl
@[simp] theorem State.tick_bus : (s.tick).bus = s.bus := rfl
@[simp] theorem State.tick_roster : (s.tick).roster = s.roster := rfl
@[simp] theorem State.tick_lights : (s.tick).lights = s.lights := rfl
@[simp] theorem State.tick_ports : (s.tick).ports = s.ports := rfl

/-! ## State.modPort -/

@[simp] theorem State.modPort_pending (p : Port) (f : PortState → PortState) :
    (s.modPort p f).pending = s.pending := rfl
@[simp] theorem State.modPort_resetHeld (p : Port) (f : PortState → PortState) :
    (s.modPort p f).resetHeld = s.resetHeld := rfl
@[simp] theorem State.modPort_now (p : Port) (f : PortState → PortState) : (s.modPort p f).now = s.now := rfl
@[simp] theorem State.modPort_freeReads (p : Port) (f : PortState → PortState) :
    (s.modPort p f).freeReads = s.freeReads := rfl
@[simp] theorem State.modPort_route (p : Port) (f : PortState → PortState) : (s.modPort p f).route = s.route := rfl
@[simp] theorem State.modPort_script (p : Port) (f : PortState → PortState) : (s.modPort p f).script = s.script := rfl
@[simp] theorem State.modPort_reader (p : Port) (f : PortState → PortState) : (s.modPort p f).reader = s.reader := rfl
@[simp] theorem State.modPort_engine (p : Port) (f : PortState → PortState) : (s.modPort p f).engine = s.engine := rfl
@[simp] theorem State.modPort_queue (p : Port) (f : PortState → PortState) : (s.modPort p f).queue = s.queue := rfl
@[simp] theorem State.modPort_bus (p : Port) (f : PortState → PortState) : (s.modPort p f).bus = s.bus := rfl
@[simp] theorem State.modPort_roster (p : Port) (f : PortState → PortState) : (s.modPort p f).roster = s.roster := rfl
@[simp] theorem State.modPort_lights (p : Port) (f : PortState → PortState) : (s.modPort p f).lights = s.lights := rfl

/-! ## State.raiseAt -/

@[simp] theorem State.raiseAt_pending (p : Port) (n : Notice) : (s.raiseAt p n).pending = s.pending := rfl
@[simp] theorem State.raiseAt_resetHeld (p : Port) (n : Notice) : (s.raiseAt p n).resetHeld = s.resetHeld := rfl
@[simp] theorem State.raiseAt_now (p : Port) (n : Notice) : (s.raiseAt p n).now = s.now := rfl
@[simp] theorem State.raiseAt_freeReads (p : Port) (n : Notice) : (s.raiseAt p n).freeReads = s.freeReads := rfl
@[simp] theorem State.raiseAt_route (p : Port) (n : Notice) : (s.raiseAt p n).route = s.route := rfl
@[simp] theorem State.raiseAt_script (p : Port) (n : Notice) : (s.raiseAt p n).script = s.script := rfl
@[simp] theorem State.raiseAt_reader (p : Port) (n : Notice) : (s.raiseAt p n).reader = s.reader := rfl
@[simp] theorem State.raiseAt_engine (p : Port) (n : Notice) : (s.raiseAt p n).engine = s.engine := rfl
@[simp] theorem State.raiseAt_queue (p : Port) (n : Notice) : (s.raiseAt p n).queue = s.queue := rfl
@[simp] theorem State.raiseAt_bus (p : Port) (n : Notice) : (s.raiseAt p n).bus = s.bus := rfl
@[simp] theorem State.raiseAt_roster (p : Port) (n : Notice) : (s.raiseAt p n).roster = s.roster := rfl
@[simp] theorem State.raiseAt_lights (p : Port) (n : Notice) : (s.raiseAt p n).lights = s.lights := rfl

/-! ## State.raise -/

@[simp] theorem State.raise_pending (n : Notice) : (s.raise n).pending = s.pending := rfl
@[simp] theorem State.raise_resetHeld (n : Notice) : (s.raise n).resetHeld = s.resetHeld := rfl
@[simp] theorem State.raise_now (n : Notice) : (s.raise n).now = s.now := rfl
@[simp] theorem State.raise_freeReads (n : Notice) : (s.raise n).freeReads = s.freeReads := rfl
@[simp] theorem State.raise_route (n : Notice) : (s.raise n).route = s.route := rfl
@[simp] theorem State.raise_script (n : Notice) : (s.raise n).script = s.script := rfl
@[simp] theorem State.raise_reader (n : Notice) : (s.raise n).reader = s.reader := rfl
@[simp] theorem State.raise_engine (n : Notice) : (s.raise n).engine = s.engine := rfl
@[simp] theorem State.raise_queue (n : Notice) : (s.raise n).queue = s.queue := rfl
@[simp] theorem State.raise_bus (n : Notice) : (s.raise n).bus = s.bus := rfl
@[simp] theorem State.raise_roster (n : Notice) : (s.raise n).roster = s.roster := rfl
@[simp] theorem State.raise_lights (n : Notice) : (s.raise n).lights = s.lights := rfl

/-! ## State.raiseOthers -/

@[simp] theorem State.raiseOthers_pending (p : Port) (n : Notice) :
    (s.raiseOthers p n).pending = s.pending := by cases p <;> rfl
@[simp] theorem State.raiseOthers_resetHeld (p : Port) (n : Notice) :
    (s.raiseOthers p n).resetHeld = s.resetHeld := by cases p <;> rfl
@[simp] theorem State.raiseOthers_now (p : Port) (n : Notice) : (s.raiseOthers p n).now = s.now := by cases p <;> rfl
@[simp] theorem State.raiseOthers_freeReads (p : Port) (n : Notice) :
    (s.raiseOthers p n).freeReads = s.freeReads := by cases p <;> rfl
@[simp] theorem State.raiseOthers_route (p : Port) (n : Notice) :
    (s.raiseOthers p n).route = s.route := by cases p <;> rfl
@[simp] theorem State.raiseOthers_script (p : Port) (n : Notice) :
    (s.raiseOthers p n).script = s.script := by cases p <;> rfl
@[simp] theorem State.raiseOthers_reader (p : Port) (n : Notice) :
    (s.raiseOthers p n).reader = s.reader := by cases p <;> rfl
@[simp] theorem State.raiseOthers_engine (p : Port) (n : Notice) :
    (s.raiseOthers p n).engine = s.engine := by cases p <;> rfl
@[simp] theorem State.raiseOthers_queue (p : Port) (n : Notice) :
    (s.raiseOthers p n).queue = s.queue := by cases p <;> rfl
@[simp] theorem State.raiseOthers_bus (p : Port) (n : Notice) : (s.raiseOthers p n).bus = s.bus := by cases p <;> rfl
@[simp] theorem State.raiseOthers_roster (p : Port) (n : Notice) :
    (s.raiseOthers p n).roster = s.roster := by cases p <;> rfl
@[simp] theorem State.raiseOthers_lights (p : Port) (n : Notice) :
    (s.raiseOthers p n).lights = s.lights := by cases p <;> rfl

/-! ## State.modCounters -/

@[simp] theorem State.modCounters_pending (f : Counters → Counters) : (s.modCounters f).pending = s.pending := rfl
@[simp] theorem State.modCounters_resetHeld (f : Counters → Counters) :
    (s.modCounters f).resetHeld = s.resetHeld := rfl
@[simp] theorem State.modCounters_now (f : Counters → Counters) : (s.modCounters f).now = s.now := rfl
@[simp] theorem State.modCounters_freeReads (f : Counters → Counters) :
    (s.modCounters f).freeReads = s.freeReads := rfl
@[simp] theorem State.modCounters_route (f : Counters → Counters) : (s.modCounters f).route = s.route := rfl
@[simp] theorem State.modCounters_script (f : Counters → Counters) : (s.modCounters f).script = s.script := rfl
@[simp] theorem State.modCounters_reader (f : Counters → Counters) : (s.modCounters f).reader = s.reader := rfl
@[simp] theorem State.modCounters_engine (f : Counters → Counters) : (s.modCounters f).engine = s.engine := rfl
@[simp] theorem State.modCounters_queue (f : Counters → Counters) : (s.modCounters f).queue = s.queue := rfl
@[simp] theorem State.modCounters_bus (f : Counters → Counters) : (s.modCounters f).bus = s.bus := rfl
@[simp] theorem State.modCounters_roster (f : Counters → Counters) : (s.modCounters f).roster = s.roster := rfl
@[simp] theorem State.modCounters_lights (f : Counters → Counters) : (s.modCounters f).lights = s.lights := rfl

/-! ## State.chainError -/

@[simp] theorem State.chainError_pending : (s.chainError).pending = s.pending := by
  rw [State.chainError, State.modCounters_pending, State.raise_pending]
@[simp] theorem State.chainError_resetHeld : (s.chainError).resetHeld = s.resetHeld := by
  rw [State.chainError, State.modCounters_resetHeld, State.raise_resetHeld]
@[simp] theorem State.chainError_now : (s.chainError).now = s.now := by
  rw [State.chainError, State.modCounters_now, State.raise_now]
@[simp] theorem State.chainError_freeReads : (s.chainError).freeReads = s.freeReads := by
  rw [State.chainError, State.modCounters_freeReads, State.raise_freeReads]
@[simp] theorem State.chainError_route : (s.chainError).route = s.route := by
  rw [State.chainError, State.modCounters_route, State.raise_route]
@[simp] theorem State.chainError_script : (s.chainError).script = s.script := by
  rw [State.chainError, State.modCounters_script, State.raise_script]
@[simp] theorem State.chainError_reader : (s.chainError).reader = s.reader := by
  rw [State.chainError, State.modCounters_reader, State.raise_reader]
@[simp] theorem State.chainError_engine : (s.chainError).engine = s.engine := by
  rw [State.chainError, State.modCounters_engine, State.raise_engine]
@[simp] theorem State.chainError_queue : (s.chainError).queue = s.queue := by
  rw [State.chainError, State.modCounters_queue, State.raise_queue]
@[simp] theorem State.chainError_bus : (s.chainError).bus = s.bus := by
  rw [State.chainError, State.modCounters_bus, State.raise_bus]
@[simp] theorem State.chainError_roster : (s.chainError).roster = s.roster := by
  rw [State.chainError, State.modCounters_roster, State.raise_roster]
@[simp] theorem State.chainError_lights : (s.chainError).lights = s.lights := by
  rw [State.chainError, State.modCounters_lights, State.raise_lights]

/-! ## State.cueDropped -/

@[simp] theorem State.cueDropped_pending : (s.cueDropped).pending = s.pending := by
  rw [State.cueDropped, State.modCounters_pending, State.raise_pending]
@[simp] theorem State.cueDropped_resetHeld : (s.cueDropped).resetHeld = s.resetHeld := by
  rw [State.cueDropped, State.modCounters_resetHeld, State.raise_resetHeld]
@[simp] theorem State.cueDropped_now : (s.cueDropped).now = s.now := by
  rw [State.cueDropped, State.modCounters_now, State.raise_now]
@[simp] theorem State.cueDropped_freeReads : (s.cueDropped).freeReads = s.freeReads := by
  rw [State.cueDropped, State.modCounters_freeReads, State.raise_freeReads]
@[simp] theorem State.cueDropped_route : (s.cueDropped).route = s.route := by
  rw [State.cueDropped, State.modCounters_route, State.raise_route]
@[simp] theorem State.cueDropped_script : (s.cueDropped).script = s.script := by
  rw [State.cueDropped, State.modCounters_script, State.raise_script]
@[simp] theorem State.cueDropped_reader : (s.cueDropped).reader = s.reader := by
  rw [State.cueDropped, State.modCounters_reader, State.raise_reader]
@[simp] theorem State.cueDropped_engine : (s.cueDropped).engine = s.engine := by
  rw [State.cueDropped, State.modCounters_engine, State.raise_engine]
@[simp] theorem State.cueDropped_queue : (s.cueDropped).queue = s.queue := by
  rw [State.cueDropped, State.modCounters_queue, State.raise_queue]
@[simp] theorem State.cueDropped_bus : (s.cueDropped).bus = s.bus := by
  rw [State.cueDropped, State.modCounters_bus, State.raise_bus]
@[simp] theorem State.cueDropped_roster : (s.cueDropped).roster = s.roster := by
  rw [State.cueDropped, State.modCounters_roster, State.raise_roster]
@[simp] theorem State.cueDropped_lights : (s.cueDropped).lights = s.lights := by
  rw [State.cueDropped, State.modCounters_lights, State.raise_lights]

/-! ## State.contextLost -/

@[simp] theorem State.contextLost_pending : (s.contextLost).pending = s.pending := by
  rw [State.contextLost, State.modCounters_pending, State.raise_pending]
@[simp] theorem State.contextLost_resetHeld : (s.contextLost).resetHeld = s.resetHeld := by
  rw [State.contextLost, State.modCounters_resetHeld, State.raise_resetHeld]
@[simp] theorem State.contextLost_now : (s.contextLost).now = s.now := by
  rw [State.contextLost, State.modCounters_now, State.raise_now]
@[simp] theorem State.contextLost_freeReads : (s.contextLost).freeReads = s.freeReads := by
  rw [State.contextLost, State.modCounters_freeReads, State.raise_freeReads]
@[simp] theorem State.contextLost_route : (s.contextLost).route = s.route := by
  rw [State.contextLost, State.modCounters_route, State.raise_route]
@[simp] theorem State.contextLost_script : (s.contextLost).script = s.script := by
  rw [State.contextLost, State.modCounters_script, State.raise_script]
@[simp] theorem State.contextLost_reader : (s.contextLost).reader = s.reader := by
  rw [State.contextLost, State.modCounters_reader, State.raise_reader]
@[simp] theorem State.contextLost_engine : (s.contextLost).engine = s.engine := by
  rw [State.contextLost, State.modCounters_engine, State.raise_engine]
@[simp] theorem State.contextLost_queue : (s.contextLost).queue = s.queue := by
  rw [State.contextLost, State.modCounters_queue, State.raise_queue]
@[simp] theorem State.contextLost_bus : (s.contextLost).bus = s.bus := by
  rw [State.contextLost, State.modCounters_bus, State.raise_bus]
@[simp] theorem State.contextLost_roster : (s.contextLost).roster = s.roster := by
  rw [State.contextLost, State.modCounters_roster, State.raise_roster]
@[simp] theorem State.contextLost_lights : (s.contextLost).lights = s.lights := by
  rw [State.contextLost, State.modCounters_lights, State.raise_lights]

/-! ## State.countUnderrun -/

@[simp] theorem State.countUnderrun_pending (c : ChannelNo) : (s.countUnderrun c).pending = s.pending := by
  rw [State.countUnderrun, State.modCounters_pending, State.raise_pending]
@[simp] theorem State.countUnderrun_resetHeld (c : ChannelNo) : (s.countUnderrun c).resetHeld = s.resetHeld := by
  rw [State.countUnderrun, State.modCounters_resetHeld, State.raise_resetHeld]
@[simp] theorem State.countUnderrun_now (c : ChannelNo) : (s.countUnderrun c).now = s.now := by
  rw [State.countUnderrun, State.modCounters_now, State.raise_now]
@[simp] theorem State.countUnderrun_freeReads (c : ChannelNo) : (s.countUnderrun c).freeReads = s.freeReads := by
  rw [State.countUnderrun, State.modCounters_freeReads, State.raise_freeReads]
@[simp] theorem State.countUnderrun_route (c : ChannelNo) : (s.countUnderrun c).route = s.route := by
  rw [State.countUnderrun, State.modCounters_route, State.raise_route]
@[simp] theorem State.countUnderrun_script (c : ChannelNo) : (s.countUnderrun c).script = s.script := by
  rw [State.countUnderrun, State.modCounters_script, State.raise_script]
@[simp] theorem State.countUnderrun_reader (c : ChannelNo) : (s.countUnderrun c).reader = s.reader := by
  rw [State.countUnderrun, State.modCounters_reader, State.raise_reader]
@[simp] theorem State.countUnderrun_engine (c : ChannelNo) : (s.countUnderrun c).engine = s.engine := by
  rw [State.countUnderrun, State.modCounters_engine, State.raise_engine]
@[simp] theorem State.countUnderrun_queue (c : ChannelNo) : (s.countUnderrun c).queue = s.queue := by
  rw [State.countUnderrun, State.modCounters_queue, State.raise_queue]
@[simp] theorem State.countUnderrun_bus (c : ChannelNo) : (s.countUnderrun c).bus = s.bus := by
  rw [State.countUnderrun, State.modCounters_bus, State.raise_bus]
@[simp] theorem State.countUnderrun_roster (c : ChannelNo) : (s.countUnderrun c).roster = s.roster := by
  rw [State.countUnderrun, State.modCounters_roster, State.raise_roster]
@[simp] theorem State.countUnderrun_lights (c : ChannelNo) : (s.countUnderrun c).lights = s.lights := by
  rw [State.countUnderrun, State.modCounters_lights, State.raise_lights]

/-! ## State.countFraming -/

@[simp] theorem State.countFraming_pending (g : SegmentNo) : (s.countFraming g).pending = s.pending := rfl
@[simp] theorem State.countFraming_resetHeld (g : SegmentNo) : (s.countFraming g).resetHeld = s.resetHeld := rfl
@[simp] theorem State.countFraming_now (g : SegmentNo) : (s.countFraming g).now = s.now := rfl
@[simp] theorem State.countFraming_freeReads (g : SegmentNo) : (s.countFraming g).freeReads = s.freeReads := rfl
@[simp] theorem State.countFraming_route (g : SegmentNo) : (s.countFraming g).route = s.route := rfl
@[simp] theorem State.countFraming_script (g : SegmentNo) : (s.countFraming g).script = s.script := rfl
@[simp] theorem State.countFraming_reader (g : SegmentNo) : (s.countFraming g).reader = s.reader := rfl
@[simp] theorem State.countFraming_engine (g : SegmentNo) : (s.countFraming g).engine = s.engine := rfl
@[simp] theorem State.countFraming_queue (g : SegmentNo) : (s.countFraming g).queue = s.queue := rfl
@[simp] theorem State.countFraming_bus (g : SegmentNo) : (s.countFraming g).bus = s.bus := rfl
@[simp] theorem State.countFraming_roster (g : SegmentNo) : (s.countFraming g).roster = s.roster := rfl
@[simp] theorem State.countFraming_lights (g : SegmentNo) : (s.countFraming g).lights = s.lights := rfl

/-! ## State.countUnheard -/

@[simp] theorem State.countUnheard_pending : (s.countUnheard).pending = s.pending := rfl
@[simp] theorem State.countUnheard_resetHeld : (s.countUnheard).resetHeld = s.resetHeld := rfl
@[simp] theorem State.countUnheard_now : (s.countUnheard).now = s.now := rfl
@[simp] theorem State.countUnheard_freeReads : (s.countUnheard).freeReads = s.freeReads := rfl
@[simp] theorem State.countUnheard_route : (s.countUnheard).route = s.route := rfl
@[simp] theorem State.countUnheard_script : (s.countUnheard).script = s.script := rfl
@[simp] theorem State.countUnheard_reader : (s.countUnheard).reader = s.reader := rfl
@[simp] theorem State.countUnheard_engine : (s.countUnheard).engine = s.engine := rfl
@[simp] theorem State.countUnheard_queue : (s.countUnheard).queue = s.queue := rfl
@[simp] theorem State.countUnheard_bus : (s.countUnheard).bus = s.bus := rfl
@[simp] theorem State.countUnheard_roster : (s.countUnheard).roster = s.roster := rfl
@[simp] theorem State.countUnheard_lights : (s.countUnheard).lights = s.lights := rfl

/-! ## State.countOutcome -/

@[simp] theorem State.countOutcome_pending (o : EndOutcome) :
    (s.countOutcome o).pending = s.pending := by cases o <;> rfl
@[simp] theorem State.countOutcome_resetHeld (o : EndOutcome) :
    (s.countOutcome o).resetHeld = s.resetHeld := by cases o <;> rfl
@[simp] theorem State.countOutcome_now (o : EndOutcome) : (s.countOutcome o).now = s.now := by cases o <;> rfl
@[simp] theorem State.countOutcome_freeReads (o : EndOutcome) :
    (s.countOutcome o).freeReads = s.freeReads := by cases o <;> rfl
@[simp] theorem State.countOutcome_route (o : EndOutcome) : (s.countOutcome o).route = s.route := by cases o <;> rfl
@[simp] theorem State.countOutcome_script (o : EndOutcome) :
    (s.countOutcome o).script = s.script := by cases o <;> rfl
@[simp] theorem State.countOutcome_reader (o : EndOutcome) :
    (s.countOutcome o).reader = s.reader := by cases o <;> rfl
@[simp] theorem State.countOutcome_engine (o : EndOutcome) :
    (s.countOutcome o).engine = s.engine := by cases o <;> rfl
@[simp] theorem State.countOutcome_queue (o : EndOutcome) : (s.countOutcome o).queue = s.queue := by cases o <;> rfl
@[simp] theorem State.countOutcome_bus (o : EndOutcome) : (s.countOutcome o).bus = s.bus := by cases o <;> rfl
@[simp] theorem State.countOutcome_roster (o : EndOutcome) :
    (s.countOutcome o).roster = s.roster := by cases o <;> rfl
@[simp] theorem State.countOutcome_lights (o : EndOutcome) :
    (s.countOutcome o).lights = s.lights := by cases o <;> rfl

/-! ## State.answer -/

@[simp] theorem State.answer_pending (p : Port) (r : ResultCode) (d : Word) :
    (s.answer p r d).pending = s.pending := rfl
@[simp] theorem State.answer_resetHeld (p : Port) (r : ResultCode) (d : Word) :
    (s.answer p r d).resetHeld = s.resetHeld := rfl
@[simp] theorem State.answer_now (p : Port) (r : ResultCode) (d : Word) : (s.answer p r d).now = s.now := rfl
@[simp] theorem State.answer_freeReads (p : Port) (r : ResultCode) (d : Word) :
    (s.answer p r d).freeReads = s.freeReads := rfl
@[simp] theorem State.answer_route (p : Port) (r : ResultCode) (d : Word) : (s.answer p r d).route = s.route := rfl
@[simp] theorem State.answer_script (p : Port) (r : ResultCode) (d : Word) : (s.answer p r d).script = s.script := rfl
@[simp] theorem State.answer_reader (p : Port) (r : ResultCode) (d : Word) : (s.answer p r d).reader = s.reader := rfl
@[simp] theorem State.answer_engine (p : Port) (r : ResultCode) (d : Word) : (s.answer p r d).engine = s.engine := rfl
@[simp] theorem State.answer_queue (p : Port) (r : ResultCode) (d : Word) : (s.answer p r d).queue = s.queue := rfl
@[simp] theorem State.answer_bus (p : Port) (r : ResultCode) (d : Word) : (s.answer p r d).bus = s.bus := rfl
@[simp] theorem State.answer_roster (p : Port) (r : ResultCode) (d : Word) : (s.answer p r d).roster = s.roster := rfl
@[simp] theorem State.answer_lights (p : Port) (r : ResultCode) (d : Word) : (s.answer p r d).lights = s.lights := rfl

/-! ## State.modChannel -/

@[simp] theorem State.modChannel_pending (c : ChannelNo) (f : ChannelRec → ChannelRec) :
    (s.modChannel c f).pending = s.pending := rfl
@[simp] theorem State.modChannel_resetHeld (c : ChannelNo) (f : ChannelRec → ChannelRec) :
    (s.modChannel c f).resetHeld = s.resetHeld := rfl
@[simp] theorem State.modChannel_now (c : ChannelNo) (f : ChannelRec → ChannelRec) :
    (s.modChannel c f).now = s.now := rfl
@[simp] theorem State.modChannel_freeReads (c : ChannelNo) (f : ChannelRec → ChannelRec) :
    (s.modChannel c f).freeReads = s.freeReads := rfl
@[simp] theorem State.modChannel_route (c : ChannelNo) (f : ChannelRec → ChannelRec) :
    (s.modChannel c f).route = s.route := rfl
@[simp] theorem State.modChannel_script (c : ChannelNo) (f : ChannelRec → ChannelRec) :
    (s.modChannel c f).script = s.script := rfl
@[simp] theorem State.modChannel_reader (c : ChannelNo) (f : ChannelRec → ChannelRec) :
    (s.modChannel c f).reader = s.reader := rfl
@[simp] theorem State.modChannel_queue (c : ChannelNo) (f : ChannelRec → ChannelRec) :
    (s.modChannel c f).queue = s.queue := rfl
@[simp] theorem State.modChannel_bus (c : ChannelNo) (f : ChannelRec → ChannelRec) :
    (s.modChannel c f).bus = s.bus := rfl
@[simp] theorem State.modChannel_roster (c : ChannelNo) (f : ChannelRec → ChannelRec) :
    (s.modChannel c f).roster = s.roster := rfl
@[simp] theorem State.modChannel_lights (c : ChannelNo) (f : ChannelRec → ChannelRec) :
    (s.modChannel c f).lights = s.lights := rfl
@[simp] theorem State.modChannel_ports (c : ChannelNo) (f : ChannelRec → ChannelRec) :
    (s.modChannel c f).ports = s.ports := rfl

/-! ## State.modStation -/

@[simp] theorem State.modStation_pending (i : SeatNo) (f : Station → Station) :
    (s.modStation i f).pending = s.pending := rfl
@[simp] theorem State.modStation_resetHeld (i : SeatNo) (f : Station → Station) :
    (s.modStation i f).resetHeld = s.resetHeld := rfl
@[simp] theorem State.modStation_now (i : SeatNo) (f : Station → Station) : (s.modStation i f).now = s.now := rfl
@[simp] theorem State.modStation_freeReads (i : SeatNo) (f : Station → Station) :
    (s.modStation i f).freeReads = s.freeReads := rfl
@[simp] theorem State.modStation_route (i : SeatNo) (f : Station → Station) :
    (s.modStation i f).route = s.route := rfl
@[simp] theorem State.modStation_script (i : SeatNo) (f : Station → Station) :
    (s.modStation i f).script = s.script := rfl
@[simp] theorem State.modStation_reader (i : SeatNo) (f : Station → Station) :
    (s.modStation i f).reader = s.reader := rfl
@[simp] theorem State.modStation_engine (i : SeatNo) (f : Station → Station) :
    (s.modStation i f).engine = s.engine := rfl
@[simp] theorem State.modStation_queue (i : SeatNo) (f : Station → Station) :
    (s.modStation i f).queue = s.queue := rfl
@[simp] theorem State.modStation_roster (i : SeatNo) (f : Station → Station) :
    (s.modStation i f).roster = s.roster := rfl
@[simp] theorem State.modStation_lights (i : SeatNo) (f : Station → Station) :
    (s.modStation i f).lights = s.lights := rfl
@[simp] theorem State.modStation_ports (i : SeatNo) (f : Station → Station) :
    (s.modStation i f).ports = s.ports := rfl

/-! ## State.modSegment -/

@[simp] theorem State.modSegment_pending (g : SegmentNo) (f : Segment → Segment) :
    (s.modSegment g f).pending = s.pending := rfl
@[simp] theorem State.modSegment_resetHeld (g : SegmentNo) (f : Segment → Segment) :
    (s.modSegment g f).resetHeld = s.resetHeld := rfl
@[simp] theorem State.modSegment_now (g : SegmentNo) (f : Segment → Segment) : (s.modSegment g f).now = s.now := rfl
@[simp] theorem State.modSegment_freeReads (g : SegmentNo) (f : Segment → Segment) :
    (s.modSegment g f).freeReads = s.freeReads := rfl
@[simp] theorem State.modSegment_route (g : SegmentNo) (f : Segment → Segment) :
    (s.modSegment g f).route = s.route := rfl
@[simp] theorem State.modSegment_script (g : SegmentNo) (f : Segment → Segment) :
    (s.modSegment g f).script = s.script := rfl
@[simp] theorem State.modSegment_reader (g : SegmentNo) (f : Segment → Segment) :
    (s.modSegment g f).reader = s.reader := rfl
@[simp] theorem State.modSegment_engine (g : SegmentNo) (f : Segment → Segment) :
    (s.modSegment g f).engine = s.engine := rfl
@[simp] theorem State.modSegment_queue (g : SegmentNo) (f : Segment → Segment) :
    (s.modSegment g f).queue = s.queue := rfl
@[simp] theorem State.modSegment_roster (g : SegmentNo) (f : Segment → Segment) :
    (s.modSegment g f).roster = s.roster := rfl
@[simp] theorem State.modSegment_lights (g : SegmentNo) (f : Segment → Segment) :
    (s.modSegment g f).lights = s.lights := rfl
@[simp] theorem State.modSegment_ports (g : SegmentNo) (f : Segment → Segment) :
    (s.modSegment g f).ports = s.ports := rfl

/-! ## State.modEntry -/

@[simp] theorem State.modEntry_pending (id : Nat) (f : Entry → Entry) : (s.modEntry id f).pending = s.pending := rfl
@[simp] theorem State.modEntry_resetHeld (id : Nat) (f : Entry → Entry) :
    (s.modEntry id f).resetHeld = s.resetHeld := rfl
@[simp] theorem State.modEntry_now (id : Nat) (f : Entry → Entry) : (s.modEntry id f).now = s.now := rfl
@[simp] theorem State.modEntry_freeReads (id : Nat) (f : Entry → Entry) :
    (s.modEntry id f).freeReads = s.freeReads := rfl
@[simp] theorem State.modEntry_route (id : Nat) (f : Entry → Entry) : (s.modEntry id f).route = s.route := rfl
@[simp] theorem State.modEntry_script (id : Nat) (f : Entry → Entry) : (s.modEntry id f).script = s.script := rfl
@[simp] theorem State.modEntry_reader (id : Nat) (f : Entry → Entry) : (s.modEntry id f).reader = s.reader := rfl
@[simp] theorem State.modEntry_engine (id : Nat) (f : Entry → Entry) : (s.modEntry id f).engine = s.engine := rfl
@[simp] theorem State.modEntry_bus (id : Nat) (f : Entry → Entry) : (s.modEntry id f).bus = s.bus := rfl
@[simp] theorem State.modEntry_roster (id : Nat) (f : Entry → Entry) : (s.modEntry id f).roster = s.roster := rfl
@[simp] theorem State.modEntry_lights (id : Nat) (f : Entry → Entry) : (s.modEntry id f).lights = s.lights := rfl
@[simp] theorem State.modEntry_ports (id : Nat) (f : Entry → Entry) : (s.modEntry id f).ports = s.ports := rfl

/-! ## State.renameOffers -/

@[simp] theorem State.renameOffers_pending : (s.renameOffers).pending = s.pending := rfl
@[simp] theorem State.renameOffers_resetHeld : (s.renameOffers).resetHeld = s.resetHeld := rfl
@[simp] theorem State.renameOffers_now : (s.renameOffers).now = s.now := rfl
@[simp] theorem State.renameOffers_freeReads : (s.renameOffers).freeReads = s.freeReads := rfl
@[simp] theorem State.renameOffers_route : (s.renameOffers).route = s.route := rfl
@[simp] theorem State.renameOffers_script : (s.renameOffers).script = s.script := rfl
@[simp] theorem State.renameOffers_reader : (s.renameOffers).reader = s.reader := rfl
@[simp] theorem State.renameOffers_queue : (s.renameOffers).queue = s.queue := rfl
@[simp] theorem State.renameOffers_bus : (s.renameOffers).bus = s.bus := rfl
@[simp] theorem State.renameOffers_roster : (s.renameOffers).roster = s.roster := rfl
@[simp] theorem State.renameOffers_lights : (s.renameOffers).lights = s.lights := rfl
@[simp] theorem State.renameOffers_ports : (s.renameOffers).ports = s.ports := rfl

/-! ## State.judgeSignals -/

@[simp] theorem State.judgeSignals_pending : (s.judgeSignals).pending = s.pending := rfl
@[simp] theorem State.judgeSignals_resetHeld : (s.judgeSignals).resetHeld = s.resetHeld := rfl
@[simp] theorem State.judgeSignals_now : (s.judgeSignals).now = s.now := rfl
@[simp] theorem State.judgeSignals_freeReads : (s.judgeSignals).freeReads = s.freeReads := rfl
@[simp] theorem State.judgeSignals_route : (s.judgeSignals).route = s.route := rfl
@[simp] theorem State.judgeSignals_script : (s.judgeSignals).script = s.script := rfl
@[simp] theorem State.judgeSignals_reader : (s.judgeSignals).reader = s.reader := rfl
@[simp] theorem State.judgeSignals_engine : (s.judgeSignals).engine = s.engine := rfl
@[simp] theorem State.judgeSignals_bus : (s.judgeSignals).bus = s.bus := rfl
@[simp] theorem State.judgeSignals_roster : (s.judgeSignals).roster = s.roster := rfl
@[simp] theorem State.judgeSignals_lights : (s.judgeSignals).lights = s.lights := rfl
@[simp] theorem State.judgeSignals_ports : (s.judgeSignals).ports = s.ports := rfl

/-! ## State.setPlayhead -/

@[simp] theorem State.setPlayhead_pending (c : ChannelNo) (ph : Playhead) :
    (s.setPlayhead c ph).pending = s.pending := rfl
@[simp] theorem State.setPlayhead_resetHeld (c : ChannelNo) (ph : Playhead) :
    (s.setPlayhead c ph).resetHeld = s.resetHeld := rfl
@[simp] theorem State.setPlayhead_now (c : ChannelNo) (ph : Playhead) : (s.setPlayhead c ph).now = s.now := rfl
@[simp] theorem State.setPlayhead_freeReads (c : ChannelNo) (ph : Playhead) :
    (s.setPlayhead c ph).freeReads = s.freeReads := rfl
@[simp] theorem State.setPlayhead_route (c : ChannelNo) (ph : Playhead) : (s.setPlayhead c ph).route = s.route := rfl
@[simp] theorem State.setPlayhead_script (c : ChannelNo) (ph : Playhead) :
    (s.setPlayhead c ph).script = s.script := rfl
@[simp] theorem State.setPlayhead_reader (c : ChannelNo) (ph : Playhead) :
    (s.setPlayhead c ph).reader = s.reader := rfl
@[simp] theorem State.setPlayhead_queue (c : ChannelNo) (ph : Playhead) : (s.setPlayhead c ph).queue = s.queue := rfl
@[simp] theorem State.setPlayhead_bus (c : ChannelNo) (ph : Playhead) : (s.setPlayhead c ph).bus = s.bus := rfl
@[simp] theorem State.setPlayhead_roster (c : ChannelNo) (ph : Playhead) :
    (s.setPlayhead c ph).roster = s.roster := rfl
@[simp] theorem State.setPlayhead_lights (c : ChannelNo) (ph : Playhead) :
    (s.setPlayhead c ph).lights = s.lights := rfl
@[simp] theorem State.setPlayhead_ports (c : ChannelNo) (ph : Playhead) : (s.setPlayhead c ph).ports = s.ports := rfl

/-! ## State.requestFetch -/

@[simp] theorem State.requestFetch_pending (c : ChannelNo) (g : Nat) : (s.requestFetch c g).pending = s.pending := rfl
@[simp] theorem State.requestFetch_resetHeld (c : ChannelNo) (g : Nat) :
    (s.requestFetch c g).resetHeld = s.resetHeld := rfl
@[simp] theorem State.requestFetch_now (c : ChannelNo) (g : Nat) : (s.requestFetch c g).now = s.now := rfl
@[simp] theorem State.requestFetch_freeReads (c : ChannelNo) (g : Nat) :
    (s.requestFetch c g).freeReads = s.freeReads := rfl
@[simp] theorem State.requestFetch_route (c : ChannelNo) (g : Nat) : (s.requestFetch c g).route = s.route := rfl
@[simp] theorem State.requestFetch_script (c : ChannelNo) (g : Nat) : (s.requestFetch c g).script = s.script := rfl
@[simp] theorem State.requestFetch_reader (c : ChannelNo) (g : Nat) : (s.requestFetch c g).reader = s.reader := rfl
@[simp] theorem State.requestFetch_queue (c : ChannelNo) (g : Nat) : (s.requestFetch c g).queue = s.queue := rfl
@[simp] theorem State.requestFetch_bus (c : ChannelNo) (g : Nat) : (s.requestFetch c g).bus = s.bus := rfl
@[simp] theorem State.requestFetch_roster (c : ChannelNo) (g : Nat) : (s.requestFetch c g).roster = s.roster := rfl
@[simp] theorem State.requestFetch_lights (c : ChannelNo) (g : Nat) : (s.requestFetch c g).lights = s.lights := rfl
@[simp] theorem State.requestFetch_ports (c : ChannelNo) (g : Nat) : (s.requestFetch c g).ports = s.ports := rfl

/-! ## State.stopOn -/

@[simp] theorem State.stopOn_pending (c : ChannelNo) : (s.stopOn c).pending = s.pending := rfl
@[simp] theorem State.stopOn_resetHeld (c : ChannelNo) : (s.stopOn c).resetHeld = s.resetHeld := rfl
@[simp] theorem State.stopOn_now (c : ChannelNo) : (s.stopOn c).now = s.now := rfl
@[simp] theorem State.stopOn_freeReads (c : ChannelNo) : (s.stopOn c).freeReads = s.freeReads := rfl
@[simp] theorem State.stopOn_route (c : ChannelNo) : (s.stopOn c).route = s.route := rfl
@[simp] theorem State.stopOn_script (c : ChannelNo) : (s.stopOn c).script = s.script := rfl
@[simp] theorem State.stopOn_reader (c : ChannelNo) : (s.stopOn c).reader = s.reader := rfl
@[simp] theorem State.stopOn_queue (c : ChannelNo) : (s.stopOn c).queue = s.queue := rfl
@[simp] theorem State.stopOn_bus (c : ChannelNo) : (s.stopOn c).bus = s.bus := rfl
@[simp] theorem State.stopOn_roster (c : ChannelNo) : (s.stopOn c).roster = s.roster := rfl
@[simp] theorem State.stopOn_lights (c : ChannelNo) : (s.stopOn c).lights = s.lights := rfl
@[simp] theorem State.stopOn_ports (c : ChannelNo) : (s.stopOn c).ports = s.ports := rfl

/-! ## State.goQuiet -/

@[simp] theorem State.goQuiet_pending (c : ChannelNo) : (s.goQuiet c).pending = s.pending := rfl
@[simp] theorem State.goQuiet_resetHeld (c : ChannelNo) : (s.goQuiet c).resetHeld = s.resetHeld := rfl
@[simp] theorem State.goQuiet_now (c : ChannelNo) : (s.goQuiet c).now = s.now := rfl
@[simp] theorem State.goQuiet_freeReads (c : ChannelNo) : (s.goQuiet c).freeReads = s.freeReads := rfl
@[simp] theorem State.goQuiet_route (c : ChannelNo) : (s.goQuiet c).route = s.route := rfl
@[simp] theorem State.goQuiet_script (c : ChannelNo) : (s.goQuiet c).script = s.script := rfl
@[simp] theorem State.goQuiet_reader (c : ChannelNo) : (s.goQuiet c).reader = s.reader := rfl
@[simp] theorem State.goQuiet_queue (c : ChannelNo) : (s.goQuiet c).queue = s.queue := rfl
@[simp] theorem State.goQuiet_bus (c : ChannelNo) : (s.goQuiet c).bus = s.bus := rfl
@[simp] theorem State.goQuiet_roster (c : ChannelNo) : (s.goQuiet c).roster = s.roster := rfl
@[simp] theorem State.goQuiet_lights (c : ChannelNo) : (s.goQuiet c).lights = s.lights := rfl
@[simp] theorem State.goQuiet_ports (c : ChannelNo) : (s.goQuiet c).ports = s.ports := rfl

/-! ## State.putClip -/

@[simp] theorem State.putClip_pending (c : ChannelNo) (id g : Nat) (cls : AnnClass) :
    (s.putClip c id g cls).pending = s.pending := rfl
@[simp] theorem State.putClip_resetHeld (c : ChannelNo) (id g : Nat) (cls : AnnClass) :
    (s.putClip c id g cls).resetHeld = s.resetHeld := rfl
@[simp] theorem State.putClip_now (c : ChannelNo) (id g : Nat) (cls : AnnClass) :
    (s.putClip c id g cls).now = s.now := rfl
@[simp] theorem State.putClip_freeReads (c : ChannelNo) (id g : Nat) (cls : AnnClass) :
    (s.putClip c id g cls).freeReads = s.freeReads := rfl
@[simp] theorem State.putClip_route (c : ChannelNo) (id g : Nat) (cls : AnnClass) :
    (s.putClip c id g cls).route = s.route := rfl
@[simp] theorem State.putClip_script (c : ChannelNo) (id g : Nat) (cls : AnnClass) :
    (s.putClip c id g cls).script = s.script := rfl
@[simp] theorem State.putClip_reader (c : ChannelNo) (id g : Nat) (cls : AnnClass) :
    (s.putClip c id g cls).reader = s.reader := rfl
@[simp] theorem State.putClip_queue (c : ChannelNo) (id g : Nat) (cls : AnnClass) :
    (s.putClip c id g cls).queue = s.queue := rfl
@[simp] theorem State.putClip_bus (c : ChannelNo) (id g : Nat) (cls : AnnClass) :
    (s.putClip c id g cls).bus = s.bus := rfl
@[simp] theorem State.putClip_roster (c : ChannelNo) (id g : Nat) (cls : AnnClass) :
    (s.putClip c id g cls).roster = s.roster := rfl
@[simp] theorem State.putClip_lights (c : ChannelNo) (id g : Nat) (cls : AnnClass) :
    (s.putClip c id g cls).lights = s.lights := rfl
@[simp] theorem State.putClip_ports (c : ChannelNo) (id g : Nat) (cls : AnnClass) :
    (s.putClip c id g cls).ports = s.ports := rfl

/-! ## State.popContext -/

@[simp] theorem State.popContext_pending (c : ChannelNo) : (s.popContext c).pending = s.pending := rfl
@[simp] theorem State.popContext_resetHeld (c : ChannelNo) : (s.popContext c).resetHeld = s.resetHeld := rfl
@[simp] theorem State.popContext_now (c : ChannelNo) : (s.popContext c).now = s.now := rfl
@[simp] theorem State.popContext_freeReads (c : ChannelNo) : (s.popContext c).freeReads = s.freeReads := rfl
@[simp] theorem State.popContext_route (c : ChannelNo) : (s.popContext c).route = s.route := rfl
@[simp] theorem State.popContext_script (c : ChannelNo) : (s.popContext c).script = s.script := rfl
@[simp] theorem State.popContext_reader (c : ChannelNo) : (s.popContext c).reader = s.reader := rfl
@[simp] theorem State.popContext_queue (c : ChannelNo) : (s.popContext c).queue = s.queue := rfl
@[simp] theorem State.popContext_bus (c : ChannelNo) : (s.popContext c).bus = s.bus := rfl
@[simp] theorem State.popContext_roster (c : ChannelNo) : (s.popContext c).roster = s.roster := rfl
@[simp] theorem State.popContext_lights (c : ChannelNo) : (s.popContext c).lights = s.lights := rfl
@[simp] theorem State.popContext_ports (c : ChannelNo) : (s.popContext c).ports = s.ports := rfl

/-! ## State.applyScene -/

@[simp] theorem State.applyScene_pending (k : Fin 16) : (s.applyScene k).pending = s.pending := rfl
@[simp] theorem State.applyScene_resetHeld (k : Fin 16) : (s.applyScene k).resetHeld = s.resetHeld := rfl
@[simp] theorem State.applyScene_now (k : Fin 16) : (s.applyScene k).now = s.now := rfl
@[simp] theorem State.applyScene_freeReads (k : Fin 16) : (s.applyScene k).freeReads = s.freeReads := rfl
@[simp] theorem State.applyScene_route (k : Fin 16) : (s.applyScene k).route = s.route := rfl
@[simp] theorem State.applyScene_script (k : Fin 16) : (s.applyScene k).script = s.script := rfl
@[simp] theorem State.applyScene_reader (k : Fin 16) : (s.applyScene k).reader = s.reader := rfl
@[simp] theorem State.applyScene_engine (k : Fin 16) : (s.applyScene k).engine = s.engine := rfl
@[simp] theorem State.applyScene_queue (k : Fin 16) : (s.applyScene k).queue = s.queue := rfl
@[simp] theorem State.applyScene_bus (k : Fin 16) : (s.applyScene k).bus = s.bus := rfl
@[simp] theorem State.applyScene_roster (k : Fin 16) : (s.applyScene k).roster = s.roster := rfl
@[simp] theorem State.applyScene_ports (k : Fin 16) : (s.applyScene k).ports = s.ports := rfl

/-! ## State.fireMark -/

@[simp] theorem State.fireMark_pending (m : Nat) : (s.fireMark m).pending = s.pending := rfl
@[simp] theorem State.fireMark_resetHeld (m : Nat) : (s.fireMark m).resetHeld = s.resetHeld := rfl
@[simp] theorem State.fireMark_now (m : Nat) : (s.fireMark m).now = s.now := rfl
@[simp] theorem State.fireMark_freeReads (m : Nat) : (s.fireMark m).freeReads = s.freeReads := rfl
@[simp] theorem State.fireMark_route (m : Nat) : (s.fireMark m).route = s.route := rfl
@[simp] theorem State.fireMark_reader (m : Nat) : (s.fireMark m).reader = s.reader := rfl
@[simp] theorem State.fireMark_engine (m : Nat) : (s.fireMark m).engine = s.engine := rfl
@[simp] theorem State.fireMark_queue (m : Nat) : (s.fireMark m).queue = s.queue := rfl
@[simp] theorem State.fireMark_bus (m : Nat) : (s.fireMark m).bus = s.bus := rfl
@[simp] theorem State.fireMark_roster (m : Nat) : (s.fireMark m).roster = s.roster := rfl
@[simp] theorem State.fireMark_lights (m : Nat) : (s.fireMark m).lights = s.lights := rfl

/-! ## State.seekTo -/

@[simp] theorem State.seekTo_pending (q : Nat) : (s.seekTo q).pending = s.pending := rfl
@[simp] theorem State.seekTo_resetHeld (q : Nat) : (s.seekTo q).resetHeld = s.resetHeld := rfl
@[simp] theorem State.seekTo_now (q : Nat) : (s.seekTo q).now = s.now := rfl
@[simp] theorem State.seekTo_freeReads (q : Nat) : (s.seekTo q).freeReads = s.freeReads := rfl
@[simp] theorem State.seekTo_route (q : Nat) : (s.seekTo q).route = s.route := rfl
@[simp] theorem State.seekTo_reader (q : Nat) : (s.seekTo q).reader = s.reader := rfl
@[simp] theorem State.seekTo_engine (q : Nat) : (s.seekTo q).engine = s.engine := rfl
@[simp] theorem State.seekTo_queue (q : Nat) : (s.seekTo q).queue = s.queue := rfl
@[simp] theorem State.seekTo_bus (q : Nat) : (s.seekTo q).bus = s.bus := rfl
@[simp] theorem State.seekTo_roster (q : Nat) : (s.seekTo q).roster = s.roster := rfl
@[simp] theorem State.seekTo_lights (q : Nat) : (s.seekTo q).lights = s.lights := rfl
@[simp] theorem State.seekTo_ports (q : Nat) : (s.seekTo q).ports = s.ports := rfl

/-! ## State.executeSwitch -/

@[simp] theorem State.executeSwitch_pending : (s.executeSwitch).pending = s.pending := rfl
@[simp] theorem State.executeSwitch_resetHeld : (s.executeSwitch).resetHeld = s.resetHeld := rfl
@[simp] theorem State.executeSwitch_now : (s.executeSwitch).now = s.now := rfl
@[simp] theorem State.executeSwitch_freeReads : (s.executeSwitch).freeReads = s.freeReads := rfl
@[simp] theorem State.executeSwitch_reader : (s.executeSwitch).reader = s.reader := rfl
@[simp] theorem State.executeSwitch_engine : (s.executeSwitch).engine = s.engine := rfl
@[simp] theorem State.executeSwitch_queue : (s.executeSwitch).queue = s.queue := rfl
@[simp] theorem State.executeSwitch_bus : (s.executeSwitch).bus = s.bus := rfl
@[simp] theorem State.executeSwitch_roster : (s.executeSwitch).roster = s.roster := rfl
@[simp] theorem State.executeSwitch_lights : (s.executeSwitch).lights = s.lights := rfl

/-! ## State.addEntry -/

@[simp] theorem State.addEntry_pending (e : Entry) : (s.addEntry e).pending = s.pending := rfl
@[simp] theorem State.addEntry_resetHeld (e : Entry) : (s.addEntry e).resetHeld = s.resetHeld := rfl
@[simp] theorem State.addEntry_now (e : Entry) : (s.addEntry e).now = s.now := rfl
@[simp] theorem State.addEntry_freeReads (e : Entry) : (s.addEntry e).freeReads = s.freeReads := rfl
@[simp] theorem State.addEntry_route (e : Entry) : (s.addEntry e).route = s.route := rfl
@[simp] theorem State.addEntry_script (e : Entry) : (s.addEntry e).script = s.script := rfl
@[simp] theorem State.addEntry_reader (e : Entry) : (s.addEntry e).reader = s.reader := rfl
@[simp] theorem State.addEntry_bus (e : Entry) : (s.addEntry e).bus = s.bus := rfl
@[simp] theorem State.addEntry_roster (e : Entry) : (s.addEntry e).roster = s.roster := rfl
@[simp] theorem State.addEntry_lights (e : Entry) : (s.addEntry e).lights = s.lights := rfl
@[simp] theorem State.addEntry_ports (e : Entry) : (s.addEntry e).ports = s.ports := rfl

/-! ## State.launchEntry -/

@[simp] theorem State.launchEntry_pending (id : Nat) : (s.launchEntry id).pending = s.pending := rfl
@[simp] theorem State.launchEntry_resetHeld (id : Nat) : (s.launchEntry id).resetHeld = s.resetHeld := rfl
@[simp] theorem State.launchEntry_now (id : Nat) : (s.launchEntry id).now = s.now := rfl
@[simp] theorem State.launchEntry_freeReads (id : Nat) : (s.launchEntry id).freeReads = s.freeReads := rfl
@[simp] theorem State.launchEntry_route (id : Nat) : (s.launchEntry id).route = s.route := rfl
@[simp] theorem State.launchEntry_script (id : Nat) : (s.launchEntry id).script = s.script := rfl
@[simp] theorem State.launchEntry_reader (id : Nat) : (s.launchEntry id).reader = s.reader := rfl
@[simp] theorem State.launchEntry_bus (id : Nat) : (s.launchEntry id).bus = s.bus := rfl
@[simp] theorem State.launchEntry_roster (id : Nat) : (s.launchEntry id).roster = s.roster := rfl
@[simp] theorem State.launchEntry_lights (id : Nat) : (s.launchEntry id).lights = s.lights := rfl
@[simp] theorem State.launchEntry_ports (id : Nat) : (s.launchEntry id).ports = s.ports := rfl

/-! ## State.judgeListened -/

@[simp] theorem State.judgeListened_pending : (s.judgeListened).pending = s.pending := rfl
@[simp] theorem State.judgeListened_resetHeld : (s.judgeListened).resetHeld = s.resetHeld := rfl
@[simp] theorem State.judgeListened_now : (s.judgeListened).now = s.now := rfl
@[simp] theorem State.judgeListened_freeReads : (s.judgeListened).freeReads = s.freeReads := rfl
@[simp] theorem State.judgeListened_route : (s.judgeListened).route = s.route := rfl
@[simp] theorem State.judgeListened_script : (s.judgeListened).script = s.script := rfl
@[simp] theorem State.judgeListened_reader : (s.judgeListened).reader = s.reader := rfl
@[simp] theorem State.judgeListened_queue : (s.judgeListened).queue = s.queue := rfl
@[simp] theorem State.judgeListened_bus : (s.judgeListened).bus = s.bus := rfl
@[simp] theorem State.judgeListened_lights : (s.judgeListened).lights = s.lights := rfl
@[simp] theorem State.judgeListened_ports : (s.judgeListened).ports = s.ports := rfl

/-! ## State.recount -/

@[simp] theorem State.recount_pending : (s.recount).pending = s.pending := rfl
@[simp] theorem State.recount_resetHeld : (s.recount).resetHeld = s.resetHeld := rfl
@[simp] theorem State.recount_now : (s.recount).now = s.now := rfl
@[simp] theorem State.recount_freeReads : (s.recount).freeReads = s.freeReads := rfl
@[simp] theorem State.recount_route : (s.recount).route = s.route := rfl
@[simp] theorem State.recount_script : (s.recount).script = s.script := rfl
@[simp] theorem State.recount_reader : (s.recount).reader = s.reader := rfl
@[simp] theorem State.recount_queue : (s.recount).queue = s.queue := rfl
@[simp] theorem State.recount_bus : (s.recount).bus = s.bus := rfl
@[simp] theorem State.recount_lights : (s.recount).lights = s.lights := rfl
@[simp] theorem State.recount_ports : (s.recount).ports = s.ports := rfl

/-! ## State.takeBand -/

@[simp] theorem State.takeBand_pending (b : Fin 4) : (s.takeBand b).pending = s.pending := rfl
@[simp] theorem State.takeBand_resetHeld (b : Fin 4) : (s.takeBand b).resetHeld = s.resetHeld := rfl
@[simp] theorem State.takeBand_now (b : Fin 4) : (s.takeBand b).now = s.now := rfl
@[simp] theorem State.takeBand_freeReads (b : Fin 4) : (s.takeBand b).freeReads = s.freeReads := rfl
@[simp] theorem State.takeBand_route (b : Fin 4) : (s.takeBand b).route = s.route := rfl
@[simp] theorem State.takeBand_script (b : Fin 4) : (s.takeBand b).script = s.script := rfl
@[simp] theorem State.takeBand_reader (b : Fin 4) : (s.takeBand b).reader = s.reader := rfl
@[simp] theorem State.takeBand_engine (b : Fin 4) : (s.takeBand b).engine = s.engine := rfl
@[simp] theorem State.takeBand_queue (b : Fin 4) : (s.takeBand b).queue = s.queue := rfl
@[simp] theorem State.takeBand_bus (b : Fin 4) : (s.takeBand b).bus = s.bus := rfl
@[simp] theorem State.takeBand_lights (b : Fin 4) : (s.takeBand b).lights = s.lights := rfl
@[simp] theorem State.takeBand_ports (b : Fin 4) : (s.takeBand b).ports = s.ports := rfl

/-! ## State.writeTimeout -/

@[simp] theorem State.writeTimeout_pending (p : Port) (v : Nat) : (s.writeTimeout p v).pending = s.pending := rfl
@[simp] theorem State.writeTimeout_resetHeld (p : Port) (v : Nat) :
    (s.writeTimeout p v).resetHeld = s.resetHeld := rfl
@[simp] theorem State.writeTimeout_now (p : Port) (v : Nat) : (s.writeTimeout p v).now = s.now := rfl
@[simp] theorem State.writeTimeout_freeReads (p : Port) (v : Nat) :
    (s.writeTimeout p v).freeReads = s.freeReads := rfl
@[simp] theorem State.writeTimeout_route (p : Port) (v : Nat) : (s.writeTimeout p v).route = s.route := rfl
@[simp] theorem State.writeTimeout_script (p : Port) (v : Nat) : (s.writeTimeout p v).script = s.script := rfl
@[simp] theorem State.writeTimeout_reader (p : Port) (v : Nat) : (s.writeTimeout p v).reader = s.reader := rfl
@[simp] theorem State.writeTimeout_engine (p : Port) (v : Nat) : (s.writeTimeout p v).engine = s.engine := rfl
@[simp] theorem State.writeTimeout_queue (p : Port) (v : Nat) : (s.writeTimeout p v).queue = s.queue := rfl
@[simp] theorem State.writeTimeout_bus (p : Port) (v : Nat) : (s.writeTimeout p v).bus = s.bus := rfl
@[simp] theorem State.writeTimeout_roster (p : Port) (v : Nat) : (s.writeTimeout p v).roster = s.roster := rfl
@[simp] theorem State.writeTimeout_lights (p : Port) (v : Nat) : (s.writeTimeout p v).lights = s.lights := rfl

/-! ## State.restartPort -/

@[simp] theorem State.restartPort_pending (p : Port) : (s.restartPort p).pending = s.pending := rfl
@[simp] theorem State.restartPort_resetHeld (p : Port) : (s.restartPort p).resetHeld = s.resetHeld := rfl
@[simp] theorem State.restartPort_now (p : Port) : (s.restartPort p).now = s.now := rfl
@[simp] theorem State.restartPort_freeReads (p : Port) : (s.restartPort p).freeReads = s.freeReads := rfl
@[simp] theorem State.restartPort_route (p : Port) : (s.restartPort p).route = s.route := rfl
@[simp] theorem State.restartPort_script (p : Port) : (s.restartPort p).script = s.script := rfl
@[simp] theorem State.restartPort_reader (p : Port) : (s.restartPort p).reader = s.reader := rfl
@[simp] theorem State.restartPort_engine (p : Port) : (s.restartPort p).engine = s.engine := rfl
@[simp] theorem State.restartPort_queue (p : Port) : (s.restartPort p).queue = s.queue := rfl
@[simp] theorem State.restartPort_bus (p : Port) : (s.restartPort p).bus = s.bus := rfl
@[simp] theorem State.restartPort_roster (p : Port) : (s.restartPort p).roster = s.roster := rfl
@[simp] theorem State.restartPort_lights (p : Port) : (s.restartPort p).lights = s.lights := rfl

/-! ## Reading a port, a channel, a station or a segment -/

@[simp] theorem PerPort.get_modify_self {α : Type} (v : PerPort α) (p : Port) (f : α → α) :
    (v.modify p f).get p = f (v.get p) := by cases p <;> rfl

theorem PerPort.get_modify_ne {α : Type} (v : PerPort α) (p q : Port) (f : α → α) (h : q ≠ p) :
    (v.modify p f).get q = v.get q := by cases p <;> cases q <;> first | rfl | exact absurd rfl h

@[simp] theorem State.modPort_port_self (p : Port) (f : PortState → PortState) :
    (s.modPort p f).port p = f (s.port p) := PerPort.get_modify_self _ _ _

theorem State.modPort_port_ne (p q : Port) (f : PortState → PortState) (h : q ≠ p) :
    (s.modPort p f).port q = s.port q := PerPort.get_modify_ne _ _ _ _ h

@[simp] theorem State.modPort_counters (p : Port) (f : PortState → PortState) :
    (s.modPort p f).ports.counters = s.ports.counters := rfl

@[simp] theorem State.modCounters_port (p : Port) (f : Counters → Counters) : (s.modCounters f).port p = s.port p := rfl

@[simp] theorem State.modCounters_counters (f : Counters → Counters) :
    (s.modCounters f).ports.counters = f s.ports.counters := rfl

/-- A notice raised at all three ports is raised in each (R192). -/
@[simp] theorem State.raise_port (n : Notice) (p : Port) : (s.raise n).port p = (s.port p).raise n := by
  cases p <;> rfl

@[simp] theorem State.raise_counters (n : Notice) : (s.raise n).ports.counters = s.ports.counters := rfl

@[simp] theorem State.raiseOthers_port_self (n : Notice) (p : Port) : (s.raiseOthers p n).port p = s.port p := by
  cases p <;> rfl

theorem State.raiseOthers_port_ne (n : Notice) (p q : Port) (h : q ≠ p) :
    (s.raiseOthers p n).port q = (s.port q).raise n := by
  cases p <;> cases q <;> first | rfl | exact absurd rfl h

@[simp] theorem State.modChannel_channel_self (c : ChannelNo) (f : ChannelRec → ChannelRec) :
    (s.modChannel c f).channel c = f (s.channel c) := vmod_get_self _ _ _

theorem State.modChannel_channel_ne (c d : ChannelNo) (f : ChannelRec → ChannelRec) (h : d ≠ c) :
    (s.modChannel c f).channel d = s.channel d := vmod_get_ne _ _ _ _ h

@[simp] theorem State.modStation_station_self (i : SeatNo) (f : Station → Station) :
    (s.modStation i f).station i = f (s.station i) := vmod_get_self _ _ _

theorem State.modStation_station_ne (i j : SeatNo) (f : Station → Station) (h : j ≠ i) :
    (s.modStation i f).station j = s.station j := vmod_get_ne _ _ _ _ h

@[simp] theorem State.modStation_segment (i : SeatNo) (f : Station → Station) (g : SegmentNo) :
    (s.modStation i f).segment g = s.segment g := rfl

@[simp] theorem State.modSegment_segment_self (g : SegmentNo) (f : Segment → Segment) :
    (s.modSegment g f).segment g = f (s.segment g) := vmod_get_self _ _ _

theorem State.modSegment_segment_ne (g h : SegmentNo) (f : Segment → Segment) (e : h ≠ g) :
    (s.modSegment g f).segment h = s.segment h := vmod_get_ne _ _ _ _ e

@[simp] theorem State.modSegment_station (g : SegmentNo) (f : Segment → Segment) (i : SeatNo) :
    (s.modSegment g f).station i = s.station i := rfl

/-- What a modChannel leaves of the channel engine: its settings and the deck. -/
@[simp] theorem State.modChannel_settings (c : ChannelNo) (f : ChannelRec → ChannelRec) :
    (s.modChannel c f).engine.holdAdvance = s.engine.holdAdvance
      ∧ (s.modChannel c f).engine.resumeWindow = s.engine.resumeWindow
      ∧ (s.modChannel c f).engine.chainLimit = s.engine.chainLimit
      ∧ (s.modChannel c f).engine.deckChannel = s.engine.deckChannel
      ∧ (s.modChannel c f).engine.deckVolume = s.engine.deckVolume := ⟨rfl, rfl, rfl, rfl, rfl⟩

/-! ## The small operations of one record -/

@[simp] theorem PortState.raise_busy (ps : PortState) (n : Notice) : (ps.raise n).busy = ps.busy := by
  unfold PortState.raise; split <;> rfl

@[simp] theorem PortState.raise_prstHeld (ps : PortState) (n : Notice) : (ps.raise n).prstHeld = ps.prstHeld := by
  unfold PortState.raise; split <;> rfl

@[simp] theorem PortState.raise_silent (ps : PortState) (n : Notice) : (ps.raise n).silent = ps.silent := by
  unfold PortState.raise; split <;> rfl

@[simp] theorem PortState.raise_silenceTimer (ps : PortState) (n : Notice) :
    (ps.raise n).silenceTimer = ps.silenceTimer := by
  unfold PortState.raise; split <;> rfl

@[simp] theorem PortState.raise_result (ps : PortState) (n : Notice) : (ps.raise n).result = ps.result := by
  unfold PortState.raise; split <;> rfl

@[simp] theorem PortState.raise_detail (ps : PortState) (n : Notice) : (ps.raise n).detail = ps.detail := by
  unfold PortState.raise; split <;> rfl

@[simp] theorem PortState.raise_pointer (ps : PortState) (n : Notice) : (ps.raise n).pointer = ps.pointer := by
  unfold PortState.raise; split <;> rfl

/-- A raised notice joins the set, unless PRST# is held (R192, R197). -/
theorem PortState.raise_notices (ps : PortState) (n : Notice) :
    (ps.raise n).notices = if ps.prstHeld then ps.notices else ps.notices ||| n.bit := by
  unfold PortState.raise; split <;> rfl

end Sys2Proof.Machine
end

