-- ==== Sys2Proof/Laws/Frames.lean ====
section
/-!
SUPPORT. What the channel engine and the queue leave alone as they work: one frame, `Audio`, and one lemma for each of
their operations.
-/
namespace Sys2Proof.Machine

/-- From `s` to `t` the channel engine and the queue have worked: the other blocks, the clock and the waiting commands
stand as before, the ports have at most gained notices, the settings of the two blocks stand, and no channel's label or
LISTENED has changed. -/
structure Audio (s t : State) : Prop where
  pending : t.pending = s.pending
  resetHeld : t.resetHeld = s.resetHeld
  now : t.now = s.now
  freeReads : t.freeReads = s.freeReads
  route : t.route = s.route
  script : t.script = s.script
  reader : t.reader = s.reader
  bus : t.bus = s.bus
  roster : t.roster = s.roster
  lights : t.lights = s.lights
  port : ∀ p, t.port p = { s.port p with notices := (t.port p).notices }
  held : ∀ p, (s.port p).prstHeld = true → t.port p = s.port p
  framing : t.ports.counters.framing = s.ports.counters.framing
  settings : { t.engine with channels := s.engine.channels } = s.engine
  liveLimit : t.queue.liveLimit = s.queue.liveLimit
  listened : ∀ c, (t.channel c).listened = (s.channel c).listened
  labels : ∀ c, (t.channel c).label0 = (s.channel c).label0 ∧ (t.channel c).label1 = (s.channel c).label1

namespace Audio

theorem refl (s : State) : Audio s s :=
  ⟨rfl, rfl, rfl, rfl, rfl, rfl, rfl, rfl, rfl, rfl, fun _ => rfl, fun _ _ => rfl, rfl, rfl, rfl, fun _ => rfl,
    fun _ => ⟨rfl, rfl⟩⟩

theorem trans {s t u : State} (a : Audio s t) (b : Audio t u) : Audio s u where
  pending := b.pending.trans a.pending
  resetHeld := b.resetHeld.trans a.resetHeld
  now := b.now.trans a.now
  freeReads := b.freeReads.trans a.freeReads
  route := b.route.trans a.route
  script := b.script.trans a.script
  reader := b.reader.trans a.reader
  bus := b.bus.trans a.bus
  roster := b.roster.trans a.roster
  lights := b.lights.trans a.lights
  port p := by
    have h := b.port p
    rw [a.port p] at h
    exact h
  held p h := by
    have h1 := a.held p h
    rw [b.held p (by rw [h1]; exact h), h1]
  framing := b.framing.trans a.framing
  settings := by
    have h1 := a.settings
    have h2 := b.settings
    cases hs : s.engine; cases ht : t.engine; cases hu : u.engine
    rw [hs, ht] at h1; rw [ht, hu] at h2
    simp_all
  liveLimit := b.liveLimit.trans a.liveLimit
  listened c := (b.listened c).trans (a.listened c)
  labels c := ⟨(b.labels c).1.trans (a.labels c).1, (b.labels c).2.trans (a.labels c).2⟩

/-- A fold of steps that each stay in the frame. -/
theorem foldl {α : Type} (f : State → α → State) (h : ∀ s a, Audio s (f s a)) (l : List α) (s : State) :
    Audio s (l.foldl f s) := by
  induction l generalizing s with
  | nil => exact refl s
  | cons a l ih => exact (h s a).trans (ih (f s a))

theorem forChannels (s : State) (f : State → ChannelNo → State) (h : ∀ s c, Audio s (f s c)) :
    Audio s (s.forChannels f) := foldl f h _ s

end Audio

/-! ## The updates the two blocks are made of -/

theorem State.modChannel_audio (s : State) (c : ChannelNo) (f : ChannelRec → ChannelRec)
    (h1 : (f (s.channel c)).listened = (s.channel c).listened)
    (h2 : (f (s.channel c)).label0 = (s.channel c).label0) (h3 : (f (s.channel c)).label1 = (s.channel c).label1) :
    Audio s (s.modChannel c f) where
  pending := rfl
  resetHeld := rfl
  now := rfl
  freeReads := rfl
  route := rfl
  script := rfl
  reader := rfl
  bus := rfl
  roster := rfl
  lights := rfl
  port _ := rfl
  held _ _ := rfl
  framing := rfl
  settings := rfl
  liveLimit := rfl
  listened d := by
    by_cases e : d = c
    · subst e; simpa using h1
    · rw [State.modChannel_channel_ne _ _ _ _ e]
  labels d := by
    by_cases e : d = c
    · subst e; simpa using ⟨h2, h3⟩
    · rw [State.modChannel_channel_ne _ _ _ _ e]; exact ⟨rfl, rfl⟩

theorem State.raise_audio (s : State) (n : Notice) : Audio s (s.raise n) where
  pending := rfl
  resetHeld := rfl
  now := rfl
  freeReads := rfl
  route := rfl
  script := rfl
  reader := rfl
  bus := rfl
  roster := rfl
  lights := rfl
  port p := by rw [State.raise_port]; unfold PortState.raise; split <;> rfl
  held p h := by rw [State.raise_port]; unfold PortState.raise; rw [if_pos h]
  framing := rfl
  settings := rfl
  liveLimit := rfl
  listened _ := rfl
  labels _ := ⟨rfl, rfl⟩

theorem State.modCounters_audio (s : State) (f : Counters → Counters)
    (h : (f s.ports.counters).framing = s.ports.counters.framing) : Audio s (s.modCounters f) where
  pending := rfl
  resetHeld := rfl
  now := rfl
  freeReads := rfl
  route := rfl
  script := rfl
  reader := rfl
  bus := rfl
  roster := rfl
  lights := rfl
  port _ := rfl
  held _ _ := rfl
  framing := h
  settings := rfl
  liveLimit := rfl
  listened _ := rfl
  labels _ := ⟨rfl, rfl⟩

/-- A change of the queue's record that keeps the live limit. -/
theorem State.queue_audio (s : State) (q : AnnouncementQueue) (h : q.liveLimit = s.queue.liveLimit) :
    Audio s { s with queue := q } where
  pending := rfl
  resetHeld := rfl
  now := rfl
  freeReads := rfl
  route := rfl
  script := rfl
  reader := rfl
  bus := rfl
  roster := rfl
  lights := rfl
  port _ := rfl
  held _ _ := rfl
  framing := rfl
  settings := rfl
  liveLimit := h
  listened _ := rfl
  labels _ := ⟨rfl, rfl⟩

theorem State.chainError_audio (s : State) : Audio s s.chainError := by
  unfold State.chainError
  exact (s.raise_audio _).trans (State.modCounters_audio _ _ rfl)

theorem State.cueDropped_audio (s : State) : Audio s s.cueDropped := by
  unfold State.cueDropped
  exact (s.raise_audio _).trans (State.modCounters_audio _ _ rfl)

theorem State.contextLost_audio (s : State) : Audio s s.contextLost := by
  unfold State.contextLost
  exact (s.raise_audio _).trans (State.modCounters_audio _ _ rfl)

theorem State.countUnderrun_audio (s : State) (c : ChannelNo) : Audio s (s.countUnderrun c) := by
  unfold State.countUnderrun
  exact (s.raise_audio _).trans (State.modCounters_audio _ _ rfl)

theorem State.countUnheard_audio (s : State) : Audio s s.countUnheard := by
  unfold State.countUnheard
  exact State.modCounters_audio _ _ rfl

theorem State.countOutcome_audio (s : State) (o : EndOutcome) : Audio s (s.countOutcome o) := by
  cases o
  · exact Audio.refl s
  · exact Audio.refl s
  · unfold State.countOutcome; exact State.modCounters_audio _ _ rfl
  · exact s.countUnheard_audio
  · unfold State.countOutcome; exact State.modCounters_audio _ _ rfl

theorem State.chainErrorIf_audio (s : State) (b : Bool) : Audio s (s.chainErrorIf b) := by
  unfold State.chainErrorIf; split
  · exact s.chainError_audio
  · exact Audio.refl s

/-! ## The record operations keep a channel's label and LISTENED -/

theorem ChannelRec.settleHold_kept (ch : ChannelRec) (n : Nat) :
    (ch.settleHold n).listened = ch.listened ∧ (ch.settleHold n).label0 = ch.label0
      ∧ (ch.settleHold n).label1 = ch.label1 ∧ (ch.settleHold n).enabled = ch.enabled := by
  unfold ChannelRec.settleHold; split <;> exact ⟨rfl, rfl, rfl, rfl⟩

theorem ChannelRec.takeOffer_kept (ch : ChannelRec) (n : Nat) (o : Option Offer) :
    (ch.takeOffer n o).listened = ch.listened ∧ (ch.takeOffer n o).label0 = ch.label0
      ∧ (ch.takeOffer n o).label1 = ch.label1 ∧ (ch.takeOffer n o).enabled = ch.enabled :=
  ChannelRec.settleHold_kept _ _

theorem ChannelRec.stopItem_kept (ch : ChannelRec) :
    ch.stopItem.listened = ch.listened ∧ ch.stopItem.label0 = ch.label0 ∧ ch.stopItem.label1 = ch.label1
      ∧ ch.stopItem.enabled = ch.enabled := by
  unfold ChannelRec.stopItem; split <;> exact ⟨rfl, rfl, rfl, rfl⟩

theorem ChannelRec.takeQuiet_kept (ch : ChannelRec) :
    ch.takeQuiet.listened = ch.listened ∧ ch.takeQuiet.label0 = ch.label0 ∧ ch.takeQuiet.label1 = ch.label1
      ∧ ch.takeQuiet.enabled = ch.enabled := by
  unfold ChannelRec.takeQuiet; dsimp only; split <;> exact ⟨rfl, rfl, rfl, rfl⟩

theorem ChannelRec.setBuf_kept (ch : ChannelRec) (n : BufName) (b : Buffer) :
    (ch.setBuf n b).listened = ch.listened ∧ (ch.setBuf n b).label0 = ch.label0
      ∧ (ch.setBuf n b).label1 = ch.label1 ∧ (ch.setBuf n b).enabled = ch.enabled := by
  cases n <;> exact ⟨rfl, rfl, rfl, rfl⟩

/-! ## The queue -/

theorem State.modEntry_audio (s : State) (id : Nat) (f : Entry → Entry) : Audio s (s.modEntry id f) :=
  s.queue_audio _ rfl

theorem State.judgeSignals_audio (s : State) : Audio s s.judgeSignals := s.queue_audio _ rfl

theorem State.renameOffers_audio (s : State) : Audio s s.renameOffers where
  pending := rfl
  resetHeld := rfl
  now := rfl
  freeReads := rfl
  route := rfl
  script := rfl
  reader := rfl
  bus := rfl
  roster := rfl
  lights := rfl
  port _ := rfl
  held _ _ := rfl
  framing := rfl
  settings := rfl
  liveLimit := rfl
  listened c := by
    simp only [State.channel, State.renameOffers, Fin.getElem_fin, vmapIdx_get]
    split
    · exact (ChannelRec.takeOffer_kept _ _ _).1
    · rfl
  labels c := by
    simp only [State.channel, State.renameOffers, Fin.getElem_fin, vmapIdx_get]
    split
    · exact ⟨(ChannelRec.takeOffer_kept _ _ _).2.1, (ChannelRec.takeOffer_kept _ _ _).2.2.1⟩
    · exact ⟨rfl, rfl⟩

theorem State.stopOn_audio (s : State) (c : ChannelNo) : Audio s (s.stopOn c) :=
  have h := (s.channel c).stopItem_kept
  s.modChannel_audio c _ h.1 h.2.1 h.2.2.1

theorem State.endEntry_audio (s : State) (e : Entry) (o : EndOutcome) : Audio s (s.endEntry e o) := by
  unfold State.endEntry; dsimp only
  refine Audio.trans (s.queue_audio _ ?_) <|
    (State.raise_audio _ _).trans <| (State.countOutcome_audio _ _).trans (State.renameOffers_audio _)
  rfl

theorem State.judgeEnd_audio (s : State) (id : Nat) : Audio s (s.judgeEnd id) := by
  unfold State.judgeEnd; split
  · split
    · exact Audio.refl s
    · exact s.endEntry_audio _ _
  · exact Audio.refl s

theorem State.afterChange_audio (s : State) (id : Nat) : Audio s (s.afterChange id) := by
  unfold State.afterChange
  exact s.renameOffers_audio.trans <| (State.judgeEnd_audio _ _).trans (State.judgeSignals_audio _)

theorem State.changeObligation_audio (s : State) (id : Nat) (c : ChannelNo) (f : Obligation → Obligation) :
    Audio s (s.changeObligation id c f) := by
  unfold State.changeObligation
  exact (s.modEntry_audio _ _).trans (State.afterChange_audio _ _)

theorem State.reportStart_audio (s : State) (id : Nat) (c : ChannelNo) (l : Bool) :
    Audio s (s.reportStart id c l) := by
  unfold State.reportStart; split
  · split
    · dsimp only; split
      · exact s.changeObligation_audio _ _ _
      · exact (s.raise_audio _).trans (State.changeObligation_audio _ _ _ _)
    · exact s.stopOn_audio c
  · exact s.stopOn_audio c

theorem State.reportRestart_audio (s : State) (id : Nat) (c : ChannelNo) : Audio s (s.reportRestart id c) := by
  unfold State.reportRestart; split
  · exact s.changeObligation_audio _ _ _
  · exact s.stopOn_audio c

theorem State.reportCut_audio (s : State) (id : Nat) (c : ChannelNo) : Audio s (s.reportCut id c) := by
  unfold State.reportCut; split
  · split
    · exact s.changeObligation_audio _ _ _
    · exact Audio.refl s
  · exact s.modChannel_audio c _ rfl rfl rfl

theorem State.reportEnd_audio (s : State) (id : Nat) (c : ChannelNo) : Audio s (s.reportEnd id c) := by
  unfold State.reportEnd; split
  · exact s.changeObligation_audio _ _ _
  · exact Audio.refl s

theorem State.reportUnheard_audio (s : State) (id : Nat) (c : ChannelNo) : Audio s (s.reportUnheard id c) := by
  unfold State.reportUnheard; split
  · exact s.changeObligation_audio _ _ _
  · exact Audio.refl s

theorem State.reportDiscarded_audio (s : State) (id : Nat) (c : ChannelNo) : Audio s (s.reportDiscarded id c) := by
  unfold State.reportDiscarded; split
  · exact s.changeObligation_audio _ _ _
  · exact Audio.refl s

theorem State.reportDisabled_audio (s : State) (id : Nat) (c : ChannelNo) : Audio s (s.reportDisabled id c) := by
  unfold State.reportDisabled; split
  · exact s.changeObligation_audio _ _ _
  · exact Audio.refl s

theorem State.addEntry_audio (s : State) (e : Entry) : Audio s (s.addEntry e) := by
  unfold State.addEntry
  exact Audio.trans (s.queue_audio { s.queue with entries := insertEntry e s.queue.entries, lastId := e.id } rfl)
    (State.renameOffers_audio _)

theorem State.launchEntry_audio (s : State) (id : Nat) : Audio s (s.launchEntry id) := by
  unfold State.launchEntry
  exact (s.modEntry_audio _ _).trans (State.renameOffers_audio _)

theorem State.takeExpiry_audio (s : State) (id : Nat) : Audio s (s.takeExpiry id) := by
  unfold State.takeExpiry
  exact (s.modEntry_audio _ _).trans (State.afterChange_audio _ _)

theorem State.judgeTrip_audio (s : State) : Audio s s.judgeTrip := by
  unfold State.judgeTrip; dsimp only
  exact (Audio.foldl _ (fun s (e : Entry) => s.launchEntry_audio e.id) _ _).trans
    (Audio.foldl _ (fun s (e : Entry) => s.takeExpiry_audio e.id) _ _)

theorem State.takeAnnounceCue_audio (s : State) (q : CueSlot) (trip : Nat) : Audio s (s.takeAnnounceCue q trip) := by
  unfold State.takeAnnounceCue; dsimp only; split
  · exact s.countUnheard_audio
  · split
    · exact s.cueDropped_audio
    · exact (s.addEntry_audio _).trans (State.judgeTrip_audio _)

theorem State.stopPlaying_audio (s : State) (e : Entry) : Audio s (s.stopPlaying e) := by
  unfold State.stopPlaying
  refine Audio.forChannels s _ fun s c => ?_
  split
  · exact s.stopOn_audio c
  · exact Audio.refl s

theorem State.removeContexts_audio (s : State) (id : Nat) : Audio s (s.removeContexts id) :=
  Audio.forChannels s _ fun s c => s.modChannel_audio c _ rfl rfl rfl

theorem State.cancelEntry_audio (s : State) (e : Entry) : Audio s (s.cancelEntry e) := by
  unfold State.cancelEntry
  exact (s.stopPlaying_audio e).trans <| (State.removeContexts_audio _ _).trans <|
    (State.endEntry_audio _ _ _).trans (State.judgeSignals_audio _)

theorem State.endLive_audio (s : State) : Audio s s.endLive := by
  unfold State.endLive; split
  · exact Audio.refl s
  · exact (s.stopPlaying_audio _).trans <| (State.endEntry_audio _ _ _).trans (State.judgeSignals_audio _)

theorem State.queueDisable_audio (s : State) (off : ChannelNo → Bool) : Audio s (s.queueDisable off) := by
  unfold State.queueDisable; dsimp only
  refine Audio.trans (s.queue_audio _ ?_) (Audio.foldl _ (fun s (e : Entry) => s.afterChange_audio e.id) _ _)
  rfl

/-! ## Chains -/

theorem State.setPlayhead_audio (s : State) (c : ChannelNo) (ph : Playhead) : Audio s (s.setPlayhead c ph) :=
  s.modChannel_audio c _ rfl rfl rfl

theorem State.requestFetch_audio (s : State) (c : ChannelNo) (g : Nat) : Audio s (s.requestFetch c g) :=
  s.modChannel_audio c _ rfl rfl rfl

theorem State.enterGroup_audio (s : State) (c : ChannelNo) (k : Chain) (e : LangEntry) (u : Bool) (next : Word) :
    Audio s (s.enterGroup c k e u next) := by
  unfold State.enterGroup; split
  · exact (s.chainErrorIf_audio _).trans (State.setPlayhead_audio _ _ _)
  · exact (s.setPlayhead_audio _ _).trans (State.requestFetch_audio _ _ _)

theorem State.moveOn_audio (s : State) (c : ChannelNo) (k : Chain) (next : Word) : Audio s (s.moveOn c k next) := by
  unfold State.moveOn; split
  · exact (s.chainErrorIf_audio _).trans (State.setPlayhead_audio _ _ _)
  · exact (s.setPlayhead_audio _ _).trans (State.requestFetch_audio _ _ _)

theorem State.beginStep_audio (s : State) (c : ChannelNo) (g offset walked start : Nat) :
    Audio s (s.beginStep c g offset walked start) := by
  unfold State.beginStep; dsimp only; split
  · exact s.chainError_audio.trans (State.setPlayhead_audio _ _ _)
  · split
    · exact s.chainError_audio.trans (State.setPlayhead_audio _ _ _)
    · exact (s.setPlayhead_audio _ _).trans (State.requestFetch_audio _ _ _)

theorem ChannelRec.endItem_kept (ch : ChannelRec) :
    ch.endItem.listened = ch.listened ∧ ch.endItem.label0 = ch.label0 ∧ ch.endItem.label1 = ch.label1
      ∧ ch.endItem.enabled = ch.enabled := ⟨rfl, rfl, rfl, rfl⟩

theorem State.takeUpChain_audio (s : State) (c : ChannelNo) (g offset walked start : Nat) :
    Audio s (s.takeUpChain c g offset walked start) := by
  unfold State.takeUpChain; dsimp only
  refine Audio.trans
    (s.modChannel_audio c (fun ch => { ch.endItem with playState := .commentary, itemClass := .commentary }) rfl rfl rfl)
    <| (State.beginStep_audio _ c g offset walked start).trans ?_
  have h := ChannelRec.settleHold_kept
  exact State.modChannel_audio _ c _ (h _ _).1 (h _ _).2.1 (h _ _).2.2.1

theorem State.passOver_audio (s : State) (c : ChannelNo) (k : Chain) (n : Nat) (next : Word) :
    Audio s (s.passOver c k n next) := by
  unfold State.passOver; split
  · exact (s.chainErrorIf_audio _).trans (State.setPlayhead_audio _ _ _)
  · exact (s.setPlayhead_audio _ _).trans (State.requestFetch_audio _ _ _)

theorem State.chainRecord_audio (s : State) (c : ChannelNo) (k : Chain) (r : GroupRecord) :
    Audio s (s.chainRecord c k r) := by
  unfold State.chainRecord; dsimp only
  have h := s.chainErrorIf_audio (judgeEntry r s.reader.storeSize = .invalid)
  generalize s.chainErrorIf (judgeEntry r s.reader.storeSize = .invalid) = t at h ⊢
  refine h.trans ?_
  split
  · split
    · exact State.enterGroup_audio _ _ _ _ _ _
    · exact State.moveOn_audio _ _ _ _
  · split
    · exact State.enterGroup_audio _ _ _ _ _ _
    · exact State.moveOn_audio _ _ _ _
  · exact State.setPlayhead_audio _ _ _
  · exact State.passOver_audio _ _ _ _ _
  · exact State.passOver_audio _ _ _ _ _
  · exact State.passOver_audio _ _ _ _ _
  · exact Audio.refl _
  · exact Audio.refl _
  · exact Audio.refl _

theorem State.endClipNow_audio (s : State) (c : ChannelNo) (cl : Clip) : Audio s (s.endClipNow c cl) := by
  unfold State.endClipNow; dsimp only
  refine (s.setPlayhead_audio c (.clip { cl with finished := true, reported := true })).trans ?_
  split
  · exact Audio.refl _
  · exact State.reportEnd_audio _ _ _

theorem State.clipRecord_audio (s : State) (c : ChannelNo) (cl : Clip) (r : GroupRecord) :
    Audio s (s.clipRecord c cl r) := by
  unfold State.clipRecord; split
  · exact s.setPlayhead_audio _ _
  · exact s.endClipNow_audio _ _
  · exact s.chainError_audio.trans (State.endClipNow_audio _ _ _)

theorem State.takeRecord_audio (s : State) (c : ChannelNo) (r : GroupRecord) : Audio s (s.takeRecord c r) := by
  unfold State.takeRecord; dsimp only
  refine (s.modChannel_audio c (fun ch => { ch with fetch := .none }) rfl rfl rfl).trans ?_
  split
  · exact State.chainRecord_audio _ _ _ _
  · exact State.clipRecord_audio _ _ _ _
  · exact Audio.refl _
  · exact Audio.refl _

/-! ## Cues -/

theorem State.commentaryCueOn_audio (s : State) (c : ChannelNo) (g : Nat) : Audio s (s.commentaryCueOn c g) := by
  have save : Audio s (match placeCommentary (s.channel c).stack ⟨g, 0, 0, g, s.now⟩ with
      | some stack => s.modChannel c fun ch => { ch with stack := stack }
      | none => s.contextLost) := by
    split
    · exact s.modChannel_audio c _ rfl rfl rfl
    · exact s.contextLost_audio
  unfold State.commentaryCueOn; dsimp only; split
  · exact s.modChannel_audio c _ rfl rfl rfl
  · exact s.modChannel_audio c _ rfl rfl rfl
  · exact s.modChannel_audio c _ rfl rfl rfl
  · exact save
  · exact save

theorem State.takeCommentaryCue_audio (s : State) (g : Nat) (set : ChannelSet) :
    Audio s (s.takeCommentaryCue g set) := by
  unfold State.takeCommentaryCue
  refine Audio.forChannels s _ fun s c => ?_
  split
  · exact s.commentaryCueOn_audio c g
  · exact Audio.refl s

theorem State.takeQuietCue_audio (s : State) (set : ChannelSet) : Audio s (s.takeQuietCue set) := by
  unfold State.takeQuietCue
  refine Audio.forChannels s _ fun s c => ?_
  split
  · have h := (s.channel c).takeQuiet_kept
    exact s.modChannel_audio c _ h.1 h.2.1 h.2.2.1
  · exact Audio.refl s

/-! ## The block boundary -/

theorem State.applyAction_audio (s : State) (c : ChannelNo) : Audio s (s.applyAction c).state := by
  unfold State.applyAction; dsimp only
  split <;> first
    | exact Audio.refl s
    | exact (s.modChannel_audio c _ rfl rfl rfl).trans (State.takeUpChain_audio _ _ _ _ _ _)
    | exact (s.modChannel_audio c _ rfl rfl rfl).trans (State.modChannel_audio _ c _ rfl rfl rfl)
    | exact s.modChannel_audio c _ rfl rfl rfl

theorem State.judgeItemEnd_audio (s : State) (c : ChannelNo) : Audio s (s.judgeItemEnd c).1 := by
  unfold State.judgeItemEnd
  split
  · split
    · exact s.modChannel_audio c _ rfl rfl rfl
    · exact Audio.refl s
    · exact Audio.refl s
    · exact Audio.refl s
  · split
    · refine Audio.trans ?_ (State.modChannel_audio _ c _ rfl rfl rfl)
      split
      · exact Audio.refl s
      · exact s.reportEnd_audio _ _
    · exact Audio.refl s
  · split
    · exact s.modChannel_audio c _ rfl rfl rfl
    · exact Audio.refl s
  · exact Audio.refl s

theorem judgeOfferCut_audio (n : Nat) (s : State) (c : ChannelNo) : Audio s (judgeOfferCut n s c).1 := by
  induction n generalizing s with
  | zero => exact Audio.refl s
  | succ n ih =>
    unfold judgeOfferCut; split
    · split
      · exact (s.reportUnheard_audio _ _).trans (ih _)
      · exact Audio.refl s
    · exact Audio.refl s

theorem State.makeRoom_audio (s : State) (c : ChannelNo) : Audio s (s.makeRoom c) := by
  unfold State.makeRoom; dsimp only; split
  · exact Audio.refl s
  · refine (s.modChannel_audio c (fun ch => { ch with stack := (s.channel c).stack.dropLast }) rfl rfl rfl).trans <| (State.contextLost_audio _).trans ?_
    split
    · exact State.reportDiscarded_audio _ _ _
    · exact Audio.refl _
    · exact Audio.refl _

theorem State.pushContext_audio (s : State) (c : ChannelNo) (k : Context) : Audio s (s.pushContext c k) := by
  unfold State.pushContext
  exact (s.makeRoom_audio c).trans (State.modChannel_audio _ c _ rfl rfl rfl)

theorem State.cutItem_audio (s : State) (c : ChannelNo) (t : Option Nat) : Audio s (s.cutItem c t) := by
  unfold State.cutItem; dsimp only
  refine Audio.trans ?_ (State.modChannel_audio _ c _ rfl rfl rfl)
  split
  · split
    · exact s.pushContext_audio c _
    · exact Audio.refl s
  · exact (s.pushContext_audio c _).trans (State.reportCut_audio _ _ _)
  · exact Audio.refl s
  · exact Audio.refl s

theorem State.judgeCut_audio (s : State) (c : ChannelNo) (t : Option Nat) : Audio s (s.judgeCut c t).1 := by
  unfold State.judgeCut; dsimp only
  have h := judgeOfferCut_audio (s.queue.entries.length + 1) s c
  split
  · exact h.trans (State.cutItem_audio _ _ _)
  · split
    · split
      · exact h.trans (State.cutItem_audio _ _ _)
      · exact h.trans (State.modChannel_audio _ c _ rfl rfl rfl)
    · exact h
    · exact h
    · exact h
    · exact h

theorem State.goQuiet_audio (s : State) (c : ChannelNo) : Audio s (s.goQuiet c) :=
  s.modChannel_audio c _ rfl rfl rfl

theorem State.putClip_audio (s : State) (c : ChannelNo) (id g : Nat) (cls : AnnClass) :
    Audio s (s.putClip c id g cls) := s.modChannel_audio c _ rfl rfl rfl

theorem State.popContext_audio (s : State) (c : ChannelNo) : Audio s (s.popContext c) :=
  s.modChannel_audio c _ rfl rfl rfl

theorem State.fetchClip_audio (s : State) (c : ChannelNo) (g : Nat) : Audio s (s.fetchClip c g) := by
  unfold State.fetchClip; split
  · split
    · exact s.chainError_audio.trans (State.endClipNow_audio _ _ _)
    · exact Audio.refl s
    · exact Audio.refl s
    · exact Audio.refl s
  · exact s.requestFetch_audio c g

theorem State.beginEntry_audio (s : State) (c : ChannelNo) (e : Entry) : Audio s (s.beginEntry c e) := by
  unfold State.beginEntry; dsimp only; split
  · exact (s.modChannel_audio c _ rfl rfl rfl).trans (State.reportStart_audio _ _ _ _)
  · exact (s.putClip_audio c _ _ _).trans <| (State.reportStart_audio _ _ _ _).trans (State.fetchClip_audio _ _ _)

theorem State.restartEntry_audio (s : State) (c : ChannelNo) (e : Entry) : Audio s (s.restartEntry c e) := by
  unfold State.restartEntry; split
  · exact (s.putClip_audio c _ _ _).trans <| (State.reportRestart_audio _ _ _).trans (State.fetchClip_audio _ _ _)
  · exact s.goQuiet_audio c

theorem choose_audio (n : Nat) (s : State) (c : ChannelNo) : Audio s (choose n s c) := by
  induction n generalizing s with
  | zero => exact s.goQuiet_audio c
  | succ n ih =>
    unfold choose; split
    · split
      · exact (s.reportUnheard_audio _ _).trans (ih _)
      · split
        · exact s.beginEntry_audio c _
        · exact s.goQuiet_audio c
    · split
      · split
        · split
          · exact (s.popContext_audio c).trans (State.restartEntry_audio _ _ _)
          · exact (s.popContext_audio c).trans (ih _)
        · exact (s.popContext_audio c).trans (ih _)
      · split
        · exact (s.popContext_audio c).trans (State.takeUpChain_audio _ _ _ _ _ _)
        · exact (s.popContext_audio c).trans (ih _)
      · exact s.goQuiet_audio c

theorem State.advance_audio (s : State) (c : ChannelNo) : Audio s (s.advance c) := by
  unfold State.advance; split
  · split
    · exact s.setPlayhead_audio _ _
    · exact s.setPlayhead_audio _ _
    · exact Audio.refl s
    · split
      · exact s.setPlayhead_audio _ _
      · split
        · exact s.enterGroup_audio _ _ _ _ _
        · exact s.setPlayhead_audio _ _
        · exact s.setPlayhead_audio _ _
  · exact s.setPlayhead_audio _ _
  · exact Audio.refl s
  · exact Audio.refl s

theorem State.playBlock_audio (s : State) (c : ChannelNo) : Audio s (s.playBlock c) := by
  unfold State.playBlock; dsimp only
  refine Audio.trans ?_ <| (State.advance_audio _ c).trans (State.modChannel_audio _ c _ rfl rfl rfl)
  split
  · have h := ChannelRec.setBuf_kept (s.channel c) (s.channel c).toggle Buffer.empty
    exact s.modChannel_audio c _ h.1 h.2.1 h.2.2.1
  · refine Audio.trans ?_ (State.modChannel_audio _ c _ rfl rfl rfl)
    split
    · exact s.countUnderrun_audio c
    · exact Audio.refl s

theorem State.play_audio (s : State) (c : ChannelNo) (began : Bool) : Audio s (s.play c began) := by
  have put (o : Output) : Audio s (s.modChannel c fun ch => { ch with output := o }) :=
    s.modChannel_audio c _ rfl rfl rfl
  unfold State.play; dsimp only; split
  · exact put _
  · exact put _
  · split
    · exact put _
    · exact s.playBlock_audio c
  · split
    · exact put _
    · exact s.playBlock_audio c
  · split
    · exact put _
    · exact s.playBlock_audio c

theorem State.judgeItem_audio (s : State) (c : ChannelNo) : Audio s (s.judgeItem c).state := by
  unfold State.judgeItem; dsimp only
  have h := s.applyAction_audio c
  split
  · exact h
  · split
    · exact h.trans (State.judgeItemEnd_audio _ c)
    · exact h.trans <| (State.judgeItemEnd_audio _ c).trans (State.judgeCut_audio _ c _)

/-- A channel's settlement at a boundary stays within the channel engine, the queue, the notices and the counters. -/
theorem State.settleChannel_audio (s : State) (c : ChannelNo) : Audio s (s.settleChannel c) := by
  unfold State.settleChannel; dsimp only; split
  · refine Audio.trans ?_ <| (State.play_audio _ c _).trans (State.modChannel_audio _ c _ rfl rfl rfl)
    split
    · exact (s.judgeItem_audio c).trans (choose_audio _ _ _)
    · exact s.judgeItem_audio c
  · exact Audio.refl s

/-! ## Disabling -/

theorem State.settleDisable_audio (s : State) (c : ChannelNo) : Audio s (s.settleDisable c) := by
  unfold State.settleDisable; dsimp only
  refine Audio.trans ?_ <| (Audio.foldl _ ?_ _ _).trans (State.modChannel_audio _ c _ rfl rfl rfl)
  · split
    · exact s.reportDisabled_audio _ _
    · exact s.reportDisabled_audio _ _
    · exact Audio.refl s
    · exact Audio.refl s
  · intro s k; split
    · exact s.reportDiscarded_audio _ _
    · exact Audio.refl s

theorem State.engineEnable_audio (s : State) (set : ChannelSet) : Audio s (s.engineEnable set) := by
  unfold State.engineEnable
  refine Audio.forChannels s _ fun s c => ?_
  split
  · exact s.modChannel_audio c _ rfl rfl rfl
  · split
    · exact s.settleDisable_audio c
    · exact Audio.refl s

end Sys2Proof.Machine
end

