-- ==== Sys2Proof/Laws/Specs.lean ====
section
/-! SUPPORT. What each shared operation can do, said once: the requests and events that wait for something in hand, the
answer, the words of a transaction, the cue pointer, the poll cursor, queue order, the census, the zones, and the
store's arbitration. -/
namespace Sys2Proof.Machine

/-! ## Requests and events -/

/-- A request in hand is one the port's engine holds, of that kind, with those argument words. -/
theorem State.inHand_eq_some (s : State) (p : Port) (k : RequestKind) (a : Args) :
    s.inHand p k = some a ↔ (s.port p).busy = some ⟨k, a⟩ := by
  unfold State.inHand
  rcases (s.port p).busy with _ | ⟨k', a'⟩
  · simp
  · by_cases h : k' = k <;> simp [h]

/-- A request command acts on the request in hand (R184). -/
theorem State.taking_of_inHand {s : State} {p : Port} {k : RequestKind} {a : Args} (f : Args → State)
    (h : s.inHand p k = some a) : s.taking p k f = f a := by
  unfold State.taking; rw [h]

/-- With no such request in hand it changes nothing (log entry 3). -/
theorem State.taking_of_none {s : State} {p : Port} {k : RequestKind} (f : Args → State)
    (h : s.inHand p k = none) : s.taking p k f = s := by
  unfold State.taking; rw [h]

/-- What holds of the state as it is, and of the state after the request, holds after the command. -/
theorem State.taking_cases (s : State) (p : Port) (k : RequestKind) (f : Args → State) (P : State → Prop)
    (idle : P s) (taken : ∀ a, s.inHand p k = some a → P (f a)) : P (s.taking p k f) := by
  cases h : s.inHand p k with
  | none => rwa [State.taking_of_none f h]
  | some a => rw [State.taking_of_inHand f h]; exact taken a h

theorem State.running_of_held {s : State} (f : State → State) (h : s.resetHeld = true) : s.running f = s := by
  unfold State.running; rw [if_pos h]

theorem State.running_of_released {s : State} (f : State → State) (h : s.resetHeld = false) : s.running f = f s := by
  unfold State.running; rw [if_neg (by rw [h]; decide)]

/-- The answer at the issuing port (R184). -/
theorem State.answer_port_self (s : State) (p : Port) (r : ResultCode) (d : Word) :
    (s.answer p r d).port p = ({ s.port p with busy := none, result := r, detail := d } : PortState).raise .reqDone := by
  unfold State.answer; rw [State.modPort_port_self]

theorem State.answer_port_ne (s : State) (p q : Port) (r : ResultCode) (d : Word) (h : q ≠ p) :
    (s.answer p r d).port q = s.port q := by
  unfold State.answer; exact State.modPort_port_ne _ _ _ _ h

@[simp] theorem State.answer_counters (s : State) (p : Port) (r : ResultCode) (d : Word) :
    (s.answer p r d).ports.counters = s.ports.counters := rfl

/-! ## Words and transactions -/

theorem State.writesTo_iff (s : State) (p : Port) (n : BitVec 6) :
    s.writesTo p n = true ↔
      s.resetHeld = false ∧ (s.port p).prstHeld = false ∧ (s.port p).transaction = .writing n := by
  simp [State.writesTo, and_assoc]

/-- A word the transaction has not reached is none. -/
theorem State.written_of_not {s : State} {p : Port} {n : BitVec 6} (f : State → State) (h : s.writesTo p n = false) :
    s.written p n f = s := by
  simp [State.written, h]

/-- A word the transaction has reached does what it does and moves the transaction on. -/
theorem State.written_of_writesTo {s : State} {p : Port} {n : BitVec 6} (f : State → State)
    (h : s.writesTo p n = true) :
    s.written p n f = (f s).modPort p fun x => { x with transaction := .writing (nextRegister n) } := by
  simp [State.written, h]

/-- All a written word can do: nothing, or its effect and the next register. -/
theorem State.written_cases (s : State) (p : Port) (n : BitVec 6) (f : State → State) (P : State → Prop) (h0 : P s)
    (h1 : s.writesTo p n = true → P ((f s).modPort p fun x => { x with transaction := .writing (nextRegister n) })) :
    P (s.written p n f) := by
  cases h : s.writesTo p n with
  | false => rwa [State.written_of_not f h]
  | true => rw [State.written_of_writesTo f h]; exact h1 h

theorem State.linked_of_taken {s : State} {p : Port} (f : State) (h : s.resetHeld = false)
    (hp : (s.port p).prstHeld = false) : s.linked p f = f := by
  simp [State.linked, h, hp]

/-- All a transaction edge can do: nothing, or its effect. -/
theorem State.linked_cases (s f : State) (p : Port) (P : State → Prop) (h0 : P s)
    (h1 : s.resetHeld = false → (s.port p).prstHeld = false → P f) : P (s.linked p f) := by
  unfold State.linked
  split
  · exact h0
  · next h =>
    have := Bool.or_eq_false_iff.mp (Bool.eq_false_iff.mpr h)
    exact h1 this.1 this.2

theorem nextRegister_of_ne {n : BitVec 6} (h : n ≠ 13) : nextRegister n = n + 1 := if_neg h

@[simp] theorem nextRegister_data : nextRegister 13 = 13 := rfl

@[simp] theorem wordRegister_zero (n : BitVec 6) : wordRegister n 0 = n := rfl

@[simp] theorem wordRegister_succ (n : BitVec 6) (k : Nat) :
    wordRegister n (k + 1) = nextRegister (wordRegister n k) := rfl

/-! ## The cue pointer (R34) -/

theorem seekFrom_spec (b : Bank) (q : Nat) :
    ∀ left i : Nat, i + left = b.cueCount →
      i ≤ seekFrom b q left i ∧ seekFrom b q left i ≤ b.cueCount
        ∧ (∀ j slot, i ≤ j → j < seekFrom b q left i → b.slots[j]? = some slot → slot.position ≤ q)
        ∧ (∀ slot, seekFrom b q left i < b.cueCount → b.slots[seekFrom b q left i]? = some slot → q < slot.position) := by
  intro left
  induction left with
  | zero =>
    intro i h
    have e : seekFrom b q 0 i = i := rfl
    rw [e]
    exact ⟨le_refl _, by omega, fun j _ h1 h2 => absurd h2 (by omega), fun _ h1 => absurd h1 (by omega)⟩
  | succ n ih =>
    intro i h
    cases hs : b.slots[i]? with
    | none =>
      have e : seekFrom b q (n + 1) i = i := by simp only [seekFrom, hs]
      rw [e]
      exact ⟨le_refl _, by omega, fun j _ h1 h2 => absurd h2 (by omega), fun slot _ h2 => by rw [hs] at h2; cases h2⟩
    | some slot =>
      by_cases hc : i < b.cueCount ∧ slot.position ≤ q
      · have e : seekFrom b q (n + 1) i = seekFrom b q n (i + 1) := by simp only [seekFrom, hs, if_pos hc]
        rw [e]
        obtain ⟨h1, h2, h3, h4⟩ := ih (i + 1) (by omega)
        refine ⟨by omega, h2, ?_, h4⟩
        intro j x hj hj' hx
        by_cases hij : j = i
        · subst hij; rw [hs] at hx; cases hx; exact hc.2
        · exact h3 j x (by omega) hj' hx
      · have e : seekFrom b q (n + 1) i = i := by simp only [seekFrom, hs, if_neg hc]
        rw [e]
        refine ⟨le_refl _, by omega, fun j _ h1 h2 => absurd h2 (by omega), ?_⟩
        intro x hx hx'
        rw [hs] at hx'; cases hx'
        by_contra hn
        exact hc ⟨hx, by omega⟩

/-- The pointer for distance `q`: every cue before it lies at or before `q`, and the cue it names lies beyond. -/
theorem Bank.seek_spec (b : Bank) (q : Nat) :
    b.seek q ≤ b.cueCount
      ∧ (∀ j slot, j < b.seek q → b.slots[j]? = some slot → slot.position ≤ q)
      ∧ (∀ slot, b.seek q < b.cueCount → b.slots[b.seek q]? = some slot → q < slot.position) := by
  obtain ⟨-, h2, h3, h4⟩ := seekFrom_spec b q b.cueCount 0 (by omega)
  exact ⟨h2, fun j x hj hx => h3 j x (Nat.zero_le _) hj hx, h4⟩

/-- The pointer never leaves the 256 slots. -/
theorem Bank.seek_le_slots (b : Bank) (q : Nat) : b.seek q ≤ 256 := by
  have key : ∀ left i : Nat, i ≤ 256 → seekFrom b q left i ≤ 256 := by
    intro left
    induction left with
    | zero => intro i h; exact h
    | succ n ih =>
      intro i h
      cases hs : b.slots[i]? with
      | none => simp only [seekFrom, hs]; exact h
      | some slot =>
        have hi : i < 256 := by
          by_contra hn
          rw [Vector.getElem?_eq_none (by omega)] at hs; cases hs
        simp only [seekFrom, hs]
        split
        · exact ih (i + 1) (by omega)
        · exact h
  exact key _ _ (by omega)

/-! ## The poll cursor (R131) -/

/-- The next address polled from `a` on: it is polled and every address passed over is not; or none of the rest is. -/
theorem nextPolled_spec (s : State) (g : SegmentNo) (count : Nat) :
    ∀ left a : Nat,
      (∀ b, nextPolled s g count left a = some b →
        a ≤ b ∧ b < a + left ∧ ((s.station (seatAt g b)).state ≠ .absent ∨ count = 0)
          ∧ ∀ d, a ≤ d → d < b → ¬((s.station (seatAt g d)).state ≠ .absent ∨ count = 0))
        ∧ (nextPolled s g count left a = none →
          ∀ b, a ≤ b → b < a + left → ¬((s.station (seatAt g b)).state ≠ .absent ∨ count = 0)) := by
  intro left
  induction left with
  | zero =>
    intro a
    exact ⟨fun b (h : none = some b) => absurd h (by simp), fun _ b h1 h2 => absurd h2 (by omega)⟩
  | succ n ih =>
    intro a
    by_cases hc : (s.station (seatAt g a)).state = .absent ∧ count ≠ 0
    · have e : nextPolled s g count (n + 1) a = nextPolled s g count n (a + 1) := by
        simp only [nextPolled, if_pos hc]
      rw [e]
      have no : ¬((s.station (seatAt g a)).state ≠ .absent ∨ count = 0) := by
        rintro (h | h)
        · exact h hc.1
        · exact hc.2 h
      obtain ⟨h1, h2⟩ := ih (a + 1)
      refine ⟨fun b hb => ?_, fun hn b hb hb' => ?_⟩
      · obtain ⟨p1, p2, p3, p4⟩ := h1 b hb
        refine ⟨by omega, by omega, p3, fun d hd hd' => ?_⟩
        by_cases hda : d = a
        · subst hda; exact no
        · exact p4 d (by omega) hd'
      · by_cases hba : b = a
        · subst hba; exact no
        · exact h2 hn b (by omega) (by omega)
    · have e : nextPolled s g count (n + 1) a = some a := by simp only [nextPolled, if_neg hc]
      rw [e]
      refine ⟨fun b hb => ?_, fun hn => by cases hn⟩
      cases hb
      refine ⟨le_refl _, by omega, ?_, fun d h1 h2 => absurd h2 (by omega)⟩
      by_cases h0 : count = 0
      · exact .inr h0
      · exact .inl fun h => hc ⟨h, h0⟩

/-! ## Queue order (R99) -/

/-- In a queue in order, a new entry goes after every entry of its own and higher class and before every entry of lower
class. -/
theorem insertEntry_eq (e : Entry) (l : List Entry) (h : l.Pairwise fun a b => b.cls.rank ≤ a.cls.rank) :
    insertEntry e l
      = (l.filter fun x => e.cls.rank ≤ x.cls.rank) ++ [e] ++ l.filter fun x => x.cls.rank < e.cls.rank := by
  induction l with
  | nil => rfl
  | cons x rest ih =>
    obtain ⟨hx, hr⟩ := List.pairwise_cons.mp h
    by_cases hc : e.cls.rank ≤ x.cls.rank
    · have hn : ¬x.cls.rank < e.cls.rank := by omega
      simp only [insertEntry, if_pos hc, ih hr, List.filter_cons, decide_eq_true hc, decide_eq_false hn]
      simp
    · have hlt : x.cls.rank < e.cls.rank := by omega
      have all : ∀ y ∈ rest, y.cls.rank < e.cls.rank := fun y hy => lt_of_le_of_lt (hx y hy) hlt
      have h1 : (rest.filter fun y => decide (e.cls.rank ≤ y.cls.rank)) = [] := by
        rw [List.filter_eq_nil_iff]
        intro y hy; have := all y hy; simp; omega
      have h2 : (rest.filter fun y => decide (y.cls.rank < e.cls.rank)) = rest := by
        rw [List.filter_eq_self]
        intro y hy; simpa using all y hy
      simp only [insertEntry, if_neg hc, List.filter_cons, decide_eq_false hc, decide_eq_true hlt, h1, h2]
      simp

/-- A new entry joins the others. -/
theorem mem_insertEntry (e x : Entry) (l : List Entry) : x ∈ insertEntry e l ↔ x = e ∨ x ∈ l := by
  induction l with
  | nil => simp [insertEntry]
  | cons y rest ih =>
    unfold insertEntry
    split
    · simp only [List.mem_cons, ih]; tauto
    · simp only [List.mem_cons]

theorem length_insertEntry (e : Entry) (l : List Entry) : (insertEntry e l).length = l.length + 1 := by
  induction l with
  | nil => rfl
  | cons y rest ih =>
    unfold insertEntry
    split
    · simp [ih]
    · rfl

/-! ## Offers (R78, R104) -/

/-- After a renaming every enabled channel has taken the eligible entry, and a disabled one is untouched. -/
theorem State.renameOffers_channel (s : State) (c : ChannelNo) :
    s.renameOffers.channel c
      = if (s.channel c).enabled then (s.channel c).takeOffer s.engine.holdAdvance (eligible s.queue.entries c)
        else s.channel c := by
  simp only [State.renameOffers, State.channel, Fin.getElem_fin, vmapIdx_get]
  rfl

@[simp] theorem ChannelRec.settleHold_offer (ch : ChannelRec) (n : Nat) : (ch.settleHold n).offer = ch.offer := by
  unfold ChannelRec.settleHold; split <;> rfl

@[simp] theorem ChannelRec.takeOffer_offer (ch : ChannelRec) (n : Nat) (o : Option Offer) :
    (ch.takeOffer n o).offer = o := by
  unfold ChannelRec.takeOffer; rw [ChannelRec.settleHold_offer]

/-! ## Census and LISTENED (R157, R158) -/

theorem State.judgeListened_listened (s : State) (c : ChannelNo) :
    s.judgeListened.roster.listened[c] = s.roster.isListened c := by
  simp only [State.judgeListened, Fin.getElem_fin, vtab_get]

/-- The channel engine is handed a change of LISTENED, and nothing where it stays. -/
theorem State.judgeListened_channel (s : State) (c : ChannelNo) :
    s.judgeListened.channel c
      = if s.roster.isListened c = s.roster.listened[c] then s.channel c
        else (s.channel c).setListened (s.roster.isListened c) := by
  simp only [State.judgeListened, State.channel, Fin.getElem_fin, vmapIdx_get]

theorem State.recount_census (s : State) (c : ChannelNo) : s.recount.roster.census[c] = s.roster.count c := by
  simp only [State.recount, State.judgeListened, Fin.getElem_fin, vtab_get]

@[simp] theorem State.recount_seat (s : State) (i : SeatNo) : s.recount.seat i = s.seat i := rfl

@[simp] theorem State.recount_fields (s : State) :
    s.recount.roster.enabled = s.roster.enabled ∧ s.recount.roster.deck = s.roster.deck
      ∧ s.recount.roster.band = s.roster.band ∧ s.recount.roster.trims = s.roster.trims
      ∧ s.recount.roster.changeCount = s.roster.changeCount := ⟨rfl, rfl, rfl, rfl, rfl⟩

@[simp] theorem ChannelRec.setListened_listened (ch : ChannelRec) (on : Bool) : (ch.setListened on).listened = on := by
  unfold ChannelRec.setListened; cases on <;> rfl

/-- LISTENED changes its flag, the full-period flag and the buffers, and nothing else of a channel (R76). -/
theorem ChannelRec.setListened_frame (ch : ChannelRec) (on : Bool) :
    { ch.setListened on with listened := ch.listened, fullPeriod := ch.fullPeriod, bufX := ch.bufX, bufY := ch.bufY }
      = ch := by
  unfold ChannelRec.setListened; cases on <;> rfl

/-- SEAT_EVENT moves the change count, and only when something changed (R156). -/
theorem State.seatEvent_eq (s : State) (changed : Bool) :
    s.seatEvent changed
      = if changed then
          { s with roster := { s.roster with changeCount := (s.roster.changeCount + 1) % 256 } }.raise .seatEvent
        else s := rfl

@[simp] theorem State.seatEvent_seat (s : State) (changed : Bool) (i : SeatNo) :
    (s.seatEvent changed).seat i = s.seat i := by
  unfold State.seatEvent; split <;> rfl

/-- One seat's record is replaced (R150). -/
theorem State.putSeat_seat (s : State) (i j : SeatNo) (y : Seat) :
    (s.putSeat i y).seat j = if i = j then y else s.seat j := by
  unfold State.putSeat
  rw [State.seatEvent_seat, State.recount_seat]
  simp only [State.seat, Fin.getElem_fin, Vector.getElem_set, Fin.ext_iff]

/-! ## Zones (R167) -/

/-- A recomputation settles every zone and moves no level but the pending one. -/
theorem Lights.recompute_zone (l : Lights) (z : Fin 8) :
    l.recompute.zones[z]
      = { l.zones[z] with
          pending := (l.pendingOf z l.zones[z].current).2, mode := (l.pendingOf z l.zones[z].current).1 } := by
  simp only [Lights.recompute, Fin.getElem_fin, vmapIdx_get]

theorem Lights.recompute_frame (l : Lights) : { l.recompute with zones := l.zones } = l := rfl

/-- A fade step comes nearer the target by the rate, or reaches it (R171). -/
theorem fadeTowards_eq (rate current target : Nat) :
    fadeTowards rate current target
      = if current + rate ≤ target then current + rate
        else if target + rate ≤ current then current - rate
        else target := by
  unfold fadeTowards
  split <;> split <;> first | omega | (split <;> omega)

/-! ## Stations (R136) -/

/-- The miss table keeps a lawful record lawful, and no miss moves the baseline. -/
theorem Station.missed_lawful (x : Station) (h : (match x.state with
    | .absent => x.misses = 0 ∧ x.fault = false
    | .joining => x.misses = 0
    | .present => x.misses < 3
    | .lost => x.misses < 32)) :
    x.missed.baseline = x.baseline ∧ match x.missed.state with
      | .absent => x.missed.misses = 0 ∧ x.missed.fault = false
      | .joining => x.missed.misses = 0
      | .present => x.missed.misses < 3
      | .lost => x.missed.misses < 32 := by
  obtain ⟨st, m, b, f⟩ := x
  cases st <;> simp only [Station.missed, Station.gone] at *
  · exact ⟨trivial, h⟩
  · simp
  · split <;> simp_all
  · split <;> simp_all

/-! ## Contexts (R82) -/

/-- A commentary context placed by a cue stands alone or below announcement contexts, in the place of one already
there. -/
theorem placeCommentary_cases (k : CommentaryContext) :
    placeCommentary [] k = some [.commentary k]
      ∧ (∀ id cls, placeCommentary [.announcement id cls] k = some [.announcement id cls, .commentary k])
      ∧ (∀ old, placeCommentary [.commentary old] k = some [.commentary k])
      ∧ (∀ id cls old, placeCommentary [.announcement id cls, .commentary old] k
        = some [.announcement id cls, .commentary k])
      ∧ (∀ id cls id' cls', placeCommentary [.announcement id cls, .announcement id' cls'] k = none) :=
  ⟨rfl, fun _ _ => rfl, fun _ => rfl, fun _ _ _ => rfl, fun _ _ _ _ => rfl⟩

end Sys2Proof.Machine
end

