-- ==== Sys2Proof/WellFormed.lean ====
section
/-!
DEFINITION. Which commands are well formed: the operand checks that the operand types do not already make.
-/
namespace Sys2Proof

/-- The registers whose writes have a row of their own: PORT_STATUS, NOTICES, NOTICE_MASK, TBL_SELECT, TBL_DATA
(10_record_and_register_layouts.md, Register window). -/
def hasOwnRow (reg : BitVec 6) : Bool :=
  reg = 1 || reg = 2 || reg = 3 || reg = 11 || reg = 13

/-- A command the part can meet: ANNOUNCE reaches the queue from ROUTE or CREW alone (R106), an entry id is 1–255
(R97), REGISTER_WRITE writes a register without a row of its own, and a window that closes has received fewer than
four bytes (R133). The operands of every other command are limited by their types alone. -/
def Instr.wellFormed : Instr → Bool
  | .announce p => p != .fare
  | .entryExpiryTimer id => 1 ≤ id && id ≤ 255
  | .registerWrite _ reg _ => !hasOwnRow reg
  | .replyWindowExpiry _ received => received < 4
  | .deviceReset | .resetRelease | .odometerPulse | .fix | .fixTimerExpiry | .speedWindowEnd => true
  | .claimShadow _ | .releaseShadow _ | .switch _ | .cancelSwitch _ => true
  | .readStart | .headerReadComplete _ | .directoryFetchComplete _ | .audioReadComplete _ | .blockBoundary => true
  | .cancel | .liveOn | .liveOff | .liveTimerExpiry | .scene | .deck | .channelEnable => true
  | .assign | .release | .releaseAll | .clearCounters _ | .clearCapture _ => true
  | .portReset _ | .prstAssert _ | .prstRelease _ | .transactionStart _ | .transactionEnd _ => true
  | .silenceTimerExpiry _ | .noticesWrite _ _ | .noticeMaskWrite _ _ | .portStatusWrite _ _ => true
  | .tblSelectWrite _ _ | .tblDataRead _ _ | .tblDataWrite _ _ | .positionRead _ => true
  | .cycleStart _ | .poll _ | .reply _ _ | .lockIndicatorExpiry _ => true
  | .pwmPeriodStart | .fadeStep | .conversionStart | .conversionComplete _ => true
  | .flashHalfPeriodExpiry | .flashChange | .safetyChange => true

end Sys2Proof
end

