-- ==== Sys2Proof/Tests/Slice0.lean ====
section
/-!
SUPPORT. Small tests: the operand checks refuse an ill-formed command each; one step of each command on a small state,
with the values of the manual's rules and worked sequences; and, for each statement with hypotheses, a state that meets
them.
-/
namespace Sys2Proof.Tests

open Sys2Proof Sys2Proof.Machine

/-! ## Operand checks -/

theorem smoke_announce_from_fare : (Instr.announce .fare).wellFormed = false := by decide
theorem smoke_entry_id_zero : (Instr.entryExpiryTimer 0).wellFormed = false := by decide
theorem smoke_entry_id_256 : (Instr.entryExpiryTimer 256).wellFormed = false := by decide
theorem smoke_register_with_own_row :
    [1, 2, 3, 11, 13].all (fun n => !(Instr.registerWrite .crew (BitVec.ofNat 6 n) 0).wellFormed) = true := by decide
theorem smoke_window_with_four_bytes : (Instr.replyWindowExpiry 0 4).wellFormed = false := by decide
theorem smoke_well_formed :
    ((Instr.announce .crew).wellFormed && (Instr.entryExpiryTimer 255).wellFormed && (Instr.registerWrite .fare 4 0).wellFormed
      && (Instr.replyWindowExpiry 5 3).wellFormed) = true := by decide

/-- No row of the table has bits, so no word spells a command, and none is put in front. -/
theorem test_no_word_spells_a_command :
    decodeTableWord 16 0 = none ∧ State.reset.withFetchWord 16 0 = State.reset := ⟨rfl, rfl⟩

/-! ## States -/

/-- The state after one command. -/
def run (c : Instr) (s : State) : State :=
  match exec c s with
  | .next t => t
  | .fault _ => s
  | .refused _ => s

/-- A request in hand at a port. -/
def asked (s : State) (p : Port) (k : RequestKind) (a0 a1 a2 a3 : Word) : State :=
  s.modPort p fun x => { x with busy := some ⟨k, ⟨a0, a1, a2, a3⟩⟩ }

def withRoute (s : State) (f : RouteCounter → RouteCounter) : State := { s with route := f s.route }

def withScript (s : State) (f : ScriptUnit → ScriptUnit) : State := { s with script := f s.script }

def withReader (s : State) (f : StoreReader → StoreReader) : State := { s with reader := f s.reader }

def withQueue (s : State) (f : AnnouncementQueue → AnnouncementQueue) : State := { s with queue := f s.queue }

def withLights (s : State) (f : Lights → Lights) : State := { s with lights := f s.lights }

/-- Port `p`'s transaction. -/
def within (s : State) (p : Port) (x : Transaction) : State := s.modPort p fun ps => { ps with transaction := x }

def withSeat (s : State) (i : SeatNo) (f : Seat → Seat) : State :=
  { s with roster := { s.roster with seats := vmod s.roster.seats i f } }

def withEnabled (s : State) (set : ChannelSet) : State :=
  { s with
    roster := { s.roster with enabled := set }
    engine := { s.engine with channels := vmapIdx (fun c ch => { ch with enabled := inSet set c }) s.engine.channels } }

/-- Sixty-four bytes that begin as given and end in zeros. -/
def bytes64 (l : List Nat) : Vector Byte 64 := vtab fun i => BitVec.ofNat 8 (l[i.val]?.getD 0)

/-- A READY catalogue of 4,000 blocks and 20 groups. -/
def ready (s : State) : State :=
  withReader s fun r => { r with catalogue := .ready, storeSize := 4000, groupCount := 20, inFlight := none }

/-- The start of the worked sequence of 01: loop 4,800 m, distance 1,200, lap 3, trip 58,400, prescaler 0. -/
def around : State :=
  let b : Bank := { State.reset.script.bank0 with loopLength := 4800 }
  withScript
    (withRoute State.reset fun r =>
      { r with distance := 1200, lap := 3, trip := 58400, loopLength := 4800, stale := false, fixTimer := some 30000000 })
    fun u => { u with bank0 := b }

/-! ## Resets and the route -/

theorem test_device_reset :
    let t := run .deviceReset around
    t.resetHeld = true ∧ t.route.distance = 0 ∧ t.route.stale = true ∧ (t.port .fare).deviceRestarted = true := by decide

theorem test_reset_release :
    let t := run .resetRelease State.held
    t.resetHeld = false ∧ t.reader.inFlight = some ⟨.header, 0, 64, 250⟩ ∧ t.lights.run = true := by decide

/-- Five pulses leave the prescaler at 5; here the eighth completes a metre (01, worked sequence). -/
theorem test_odometer_metre :
    let t := run .odometerPulse (withRoute around fun r => { r with prescaler := 7 })
    t.route.distance = 1201 ∧ t.route.trip = 58401 ∧ t.route.prescaler = 0 ∧ t.route.windowCount = 1 := by decide

theorem test_odometer_wraps :
    let t := run .odometerPulse (withRoute around fun r => { r with prescaler := 7, distance := 4799, lap := 15 })
    t.route.distance = 0 ∧ t.route.lap = 0 := by decide

/-- FIX 1,240 from 1,260: d is 4,780, a re-seek; the trip stays (01, worked sequence). -/
theorem test_fix_seeks :
    let s := withRoute around fun r => { r with distance := 1260, trip := 58460 }
    let t := run .fix (asked s .route .fix 1240 0xFFFF#16 0 0)
    t.route.distance = 1240 ∧ t.route.trip = 58460 ∧ t.route.lap = 3 ∧ (t.port .route).result = .ok := by decide

/-- FIX 10 from 4,790: d is 20, a catch-up across the wrap; the trip becomes 58,530 and the lap 4 (01). -/
theorem test_fix_catches_up :
    let s := withRoute around fun r => { r with distance := 4790, trip := 58510 }
    let t := run .fix (asked s .route .fix 10 0xFFFF#16 0 0)
    t.route.distance = 10 ∧ t.route.trip = 58530 ∧ t.route.lap = 4 := by decide

theorem test_fix_timer :
    let t := run .fixTimerExpiry around
    t.route.stale = true ∧ t.route.fixTimer = none ∧ (t.port .crew).notices = 0x0020#16 := by decide

/-- Eight metres in a window: speed 8, band 2 (R7, R8); an upper-deck seat then hears 8 + 2 (R162). -/
theorem test_speed_window :
    let t := run .speedWindowEnd (withRoute State.reset fun r => { r with windowCount := 8 })
    t.route.speed = 8 ∧ t.route.band = 2 ∧ (t.seat 63).effective = 10 ∧ (t.seat 64).effective = 8 := by decide

/-! ## Script -/

theorem test_claim :
    let t := run (.claimShadow .fare) (asked State.reset .fare .claimShadow 0 0 0 0)
    t.script.claimant = some .fare ∧ (t.port .fare).result = .ok := by decide

theorem test_claim_held :
    let s := withScript State.reset fun u => { u with claimant := some .crew }
    let t := run (.claimShadow .route) (asked s .route .claimShadow 0 0 0 0)
    t.script.claimant = some .crew ∧ (t.port .route).result = .held ∧ (t.port .route).detail = 2 := by decide

theorem test_release_not_holder :
    let t := run (.releaseShadow .crew) (asked State.reset .crew .releaseShadow 0 0 0 0)
    (t.port .crew).result = .notHolder ∧ (t.port .crew).detail = 0 := by decide

/-- A shadow bank of loop length 2,980 with one MARK cue at 30, claimed by ROUTE. -/
def switchable : State :=
  let b : Bank := State.reset.script.bank1
  let new : Bank :=
    { b with loopLength := 2980, cueCount := 1, tag := 12, slots := b.slots.set 0 ⟨30, 0x8000#16, 7, 0⟩ }
  withScript (withRoute around fun r => { r with distance := 2850, lap := 6, trip := 90000 })
    fun u => { u with claimant := some .route, bank1 := new }

/-- SWITCH delta 0, position 2,800 at distance 2,850 is late: lap 7, late-lap count 1 (02, worked sequence). -/
theorem test_switch_late :
    let t := run (.switch .route) (asked switchable .route .switch 0 2800 0 0)
    t.script.pendingSwitch = some ⟨7, 2800, 1⟩ ∧ (t.port .route).result = .ok ∧ (t.port .fare).notices = 0x0010#16 := by
  decide

/-- SWITCH delta 0, position 3,000 is not late (02). -/
theorem test_switch_ahead :
    let t := run (.switch .route) (asked switchable .route .switch 0 3000 0 0)
    t.script.pendingSwitch = some ⟨6, 3000, 0⟩ := by decide

theorem test_cancel_switch :
    let s := withScript switchable fun u => { u with pendingSwitch := some ⟨6, 3000, 0⟩ }
    let t := run (.cancelSwitch .route) (asked s .route .cancelSwitch 0 0 0 0)
    t.script.pendingSwitch = none ∧ (t.port .route).result = .ok := by decide

/-- The advance to the point executes the switch; 3,000 is re-based to 0 on lap 7 (02). -/
theorem test_switch_executes :
    let s := withScript
      (withRoute switchable fun r => { r with distance := 2999, prescaler := 7 })
      fun u => { u with pendingSwitch := some ⟨6, 3000, 0⟩ }
    let t := run .odometerPulse s
    t.script.active = .bank1 ∧ t.route.distance = 0 ∧ t.route.lap = 7 ∧ t.script.pointer = 0 := by decide

/-! ## Store -/

theorem test_header_ready :
    let t := run (.headerReadComplete (bytes64 [0x44, 0x4B, 0x43, 0x53, 1, 0, 0x0F, 0xA0, 0, 20])) State.reset
    t.reader.catalogue = .ready ∧ t.reader.storeSize = 4000 ∧ t.reader.groupCount = 20
      ∧ (t.port .fare).notices = 0x8000#16 := by decide

/-- A flash that does not answer fails the signature test (R45). -/
theorem test_header_bad :
    let t := run (.headerReadComplete (bytes64 [])) State.reset
    t.reader.catalogue = .bad ∧ t.reader.badReason = .signature ∧ t.reader.storeSize = 0 := by decide

/-- Channel 3 plays group 9 from its record on, LISTENED, with the record requested. -/
def fetching : State :=
  (ready State.reset).modChannel 3 fun ch =>
    { ch with
      enabled := true, listened := true, playState := .commentary, itemClass := .commentary
      playhead := .chain ⟨9, 0, 1, 9, .awaiting, false⟩, fetch := .pending 9 }

/-- Group 9's record is the second of block 2 (R44). -/
theorem test_read_start :
    let t := run .readStart fetching
    t.reader.inFlight = some ⟨.directory 3, 1088, 64, 250⟩ ∧ t.reader.lastServed = 3 := by decide

/-- The read of `fetching` in flight. -/
def inFlight : State :=
  (withReader fetching fun r => { r with inFlight := some ⟨.directory 3, 1088, 64, 250⟩, lastServed := 3 }).modChannel 3
    fun ch => { ch with fetch := .inFlight 9 }

/-- Channel 3's entry: start block 200, length 2; the chain ends after it. -/
theorem test_directory_fetch :
    let rec3 := bytes64 ([0, 0, 0, 0, 0, 0, 0, 0, 0, 0, 0, 0, 0, 200, 0, 2] ++ List.replicate 32 0 ++ [0xFF, 0xFF, 0])
    let t := run (.directoryFetchComplete rec3) inFlight
    (t.channel 3).playhead = .chain ⟨9, 0, 1, 9, .playing ⟨200, 2⟩ false .ended, false⟩ ∧ t.reader.inFlight = none := by
  decide

/-- Channel 3 plays group 9, two blocks long, from block 200, and has `b` in X. -/
def playing (b : Buffer) : State :=
  fetching.modChannel 3 fun ch =>
    { ch with
      playhead := .chain ⟨9, 0, 1, 9, .playing ⟨200, 2⟩ false .ended, false⟩, fetch := .none, bufX := b
      fullPeriod := true }

/-- The audio read of block 0 of group 9 into X in flight. -/
def audioInFlight : State :=
  withReader (playing Buffer.empty) fun r => { r with inFlight := some ⟨.audio 3 .x ⟨9, 0⟩, 102400, 512, 1250⟩ }

theorem test_audio_fresh :
    let t := run (.audioReadComplete (vtab fun _ => 0)) audioInFlight
    (t.channel 3).bufX.owner = .player ∧ (t.channel 3).bufX.tag = some ⟨9, 0⟩ ∧ t.now = 1250 := by decide

/-- After the boundary has been taken first, the tag is stale (R62). -/
theorem test_audio_stale :
    let s := audioInFlight.modChannel 3 fun ch =>
      { ch with
        toggle := .y, playhead := .chain ⟨9, 1, 1, 9, .playing ⟨200, 2⟩ false .ended, false⟩ }
    let t := run (.audioReadComplete (vtab fun _ => 0)) s
    (t.channel 3).bufX.owner = .reader ∧ (t.channel 3).bufX.tag = none := by decide

/-- Segment 7, step 15 is 3,952; the sign makes it negative (R50). -/
theorem test_expand : expand 0x7F#8 = 3952 ∧ expand 0xFF#8 = -3952 ∧ expand 0x00#8 = 0 := by decide

/-! ## Channels -/

theorem test_boundary_plays :
    let t := run .blockBoundary (playing ⟨.player, some ⟨9, 0⟩, [0x7F#8]⟩)
    (t.channel 3).output = .samples [3952] ∧ (t.channel 3).toggle = .y ∧ t.ports.counters.underruns[3] = 0 := by decide

theorem test_boundary_underruns :
    let t := run .blockBoundary (playing Buffer.empty)
    (t.channel 3).output = .silence ∧ t.ports.counters.underruns[3] = 1 ∧ (t.port .crew).notices = 0x0400#16 := by decide

theorem test_deck :
    let t := run .deck (asked State.reset .crew .deck 5 9 0 0)
    t.engine.deckChannel = some 5 ∧ t.engine.deckVolume = 9 ∧ t.roster.deck = some 5 ∧ (t.channel 5).listened = true := by
  decide

theorem test_deck_refused :
    let t := run .deck (asked State.reset .crew .deck 12 9 0 0)
    t.engine.deckChannel = none ∧ (t.port .crew).result = .badArgument := by decide

/-! ## Announcements -/

/-- The first entry after start-up has id 1 (R98). -/
theorem test_announce :
    let t := run (.announce .route) (asked (withEnabled (ready State.reset) 0xFFF#12) .route .announce 7 0x0003#16 100 50)
    t.queue.entries.map (fun e => (e.id, e.launchTrip, e.expiry, e.obligations.length)) = [(1, some 100, .trip 150, 2)]
      ∧ (t.port .route).detail = 1 := by decide

/-- EXPRESS from ROUTE is refused NO_RIGHT before the catalogue is judged (R106). -/
theorem test_announce_no_right :
    let t := run (.announce .route) (asked State.reset .route .announce 7 0x4003#16 100 50)
    (t.port .route).result = .noRight := by decide

def announced : State :=
  withQueue (withEnabled (ready State.reset) 0xFFF#12) fun q =>
    { q with
      lastId := 21
      entries := [⟨21, .standard, .crew, .clip 7, false, false, none, .seconds 5, true, none, some 5000000,
        [⟨2, .opened, none, none⟩]⟩] }

theorem test_cancel :
    let t := run .cancel (asked announced .crew .cancel 21 0 0 0)
    t.queue.entries = [] ∧ t.queue.lastOutcome = .cancelled ∧ t.ports.counters.cancelled = 1 := by decide

/-- The expiry drops the OPEN obligation; the entry ends EXPIRED and is captured (R111, R121, R123). -/
theorem test_entry_expires :
    let t := run (.entryExpiryTimer 21) announced
    t.queue.entries = [] ∧ t.queue.lastOutcome = .expired ∧ t.queue.capture = some ⟨21, 7, .crew, 0, 0⟩
      ∧ t.now = 5000000 := by decide

theorem test_live_on :
    let t := run .liveOn (asked (withEnabled State.reset 0xFFF#12) .crew .liveOn 0 0x0FFF#16 0 0)
    t.queue.entries.map (fun e => (e.id, e.cls, e.content)) = [(1, .live, .mic)]
      ∧ t.queue.liveTimer = some 120000000 := by decide

/-- A page as entry 40, PLAYING on a listened channel 1. -/
def page : State :=
  withQueue ((withEnabled State.reset 0xFFF#12).modChannel 1 fun ch =>
      { ch with playState := .live, itemClass := .live, playhead := .mic 40 false })
    fun q =>
      { q with
        lastId := 40, liveTimer := some 9000000
        entries := [⟨40, .live, .crew, .mic, false, false, none, .none, true, none, none,
          [⟨1, .playing, some true, none⟩]⟩] }

theorem test_live_off :
    let t := run .liveOff (asked page .crew .liveOff 0 0 0 0)
    t.queue.entries = [] ∧ t.queue.lastOutcome = .played ∧ t.queue.liveTimer = none
      ∧ (t.channel 1).playhead = .mic 40 true := by decide

theorem test_live_timer :
    let t := run .liveTimerExpiry page
    t.queue.entries = [] ∧ t.queue.lastOutcome = .played ∧ t.now = 9000000 ∧ (t.port .crew).notices = 0x0080#16 := by
  decide

theorem test_clear_capture :
    let s := withQueue State.reset fun q => { q with capture := some ⟨21, 7, .crew, 0, 0⟩ }
    let t := run (.clearCapture .fare) (asked s .fare .clearCapture 0 0 0 0)
    t.queue.capture = none ∧ (t.port .fare).result = .ok := by decide

/-! ## Seat bus -/

/-- The first cycle polls all sixteen addresses (R131): after it the count moves on, and a later one begins 2 ms later.
-/
theorem test_cycle_start :
    let s := State.reset.modSegment 2 fun g => { g with inCycle := false }
    let t := run (.cycleStart 2) s
    (t.segment 2).inCycle = true ∧ (t.segment 2).cursor = 0 ∧ t.now = 2000 := by decide

set_option maxRecDepth 20000 in
/-- A free seat's POLL: MUTE, volume 8, NORMAL, "--" and the check byte 47h worked out by hand from R201. -/
theorem test_poll :
    let t := run (.poll 0) State.reset
    (t.segment 0).poll = some ⟨#v[0x80, 0x0F, 0x08, 0x00, 0x2D, 0x2D, 0x47], 70, 370⟩ := by decide

/-- Segment 2's poll of address 5 is in flight: seat 37. -/
def polled (x : Station) : State :=
  (State.reset.modStation 37 fun _ => x).modSegment 2 fun g =>
    { g with cursor := 5, poll := some ⟨vtab fun _ => 0, 70, 370⟩ }

set_option maxRecDepth 20000 in
/-- An ABSENT station's good reply: JOINING, the baseline loaded, the steps discarded (R135). -/
theorem test_reply_joins :
    let t := run (.reply 2 #v[0x05, 0xA0, 0x02, 0xFD]) (polled Station.reset)
    t.station 37 = ⟨.joining, 0, true, false⟩ ∧ (t.seat 37).volume = 8 ∧ (t.seat 37).plugged = true := by decide

set_option maxRecDepth 20000 in
/-- The same report at a PRESENT station with the other baseline is new: volume 8 becomes 10 (06, worked sequence). -/
theorem test_reply_key_event :
    let t := run (.reply 2 #v[0x05, 0xA0, 0x02, 0xFD]) (polled ⟨.present, 1, false, false⟩)
    t.station 37 = ⟨.present, 0, true, false⟩ ∧ (t.seat 37).volume = 10 := by decide

/-- No byte: a miss without a framing error; three bytes: one with (R133). The third miss is LOST (R136). -/
theorem test_window_closes :
    let t := run (.replyWindowExpiry 2 0) (polled ⟨.present, 2, true, false⟩)
    t.station 37 = ⟨.lost, 0, true, false⟩ ∧ t.ports.counters.framing[2] = 0 ∧ (t.segment 2).cursor = 6 := by decide

theorem test_window_closes_on_bytes :
    let t := run (.replyWindowExpiry 2 3) (polled ⟨.lost, 31, true, true⟩)
    t.station 37 = ⟨.absent, 0, true, false⟩ ∧ t.ports.counters.framing[2] = 1 := by decide

theorem test_lock_indicator :
    let t := run (.lockIndicatorExpiry 37) (withSeat State.reset 37 fun x => { x with lockTimer := some 2000000 })
    (t.seat 37).lockTimer = none ∧ t.now = 2000000 := by decide

/-! ## Roster -/

/-- ASSIGN seat 10, language 1, LOCK, tag 40,112 (07, worked sequence). -/
theorem test_assign :
    let t := run .assign (asked (withEnabled State.reset 0x017#12) .fare .assign 10 0x8101#16 0 40112)
    (t.seat 10).language = some 1 ∧ (t.seat 10).lock = true ∧ (t.seat 10).tag = some 40112
      ∧ (t.seat 10).assignedBy = .fare ∧ t.roster.changeCount = 1 := by decide

/-- ASSIGN seat 70, language 3 that is not enabled (07, worked sequence). -/
theorem test_assign_refused :
    let t := run .assign (asked (withEnabled State.reset 0x017#12) .fare .assign 70 3 0 0)
    (t.port .fare).result = .badArgument ∧ (t.seat 70).language = none := by decide

def assigned : State :=
  withSeat (withEnabled State.reset 0x017#12) 10 fun x =>
    { x with language := some 1, assignedBy := .fare, lock := true, tag := some 40112, volume := 10 }

theorem test_release :
    let t := run .release (asked assigned .fare .release 10 0 0 0)
    (t.seat 10).language = none ∧ (t.seat 10).lock = false ∧ (t.seat 10).tag = none ∧ (t.seat 10).volume = 10
      ∧ t.roster.changeCount = 1 := by decide

theorem test_release_all :
    let t := run .releaseAll (asked assigned .fare .releaseAll 0 0 0 0)
    (t.seat 10).language = none ∧ t.roster.changeCount = 1 ∧ (t.port .fare).result = .ok := by decide

/-- The withdrawn seat keeps its language, and no change is counted (07, worked sequence). -/
theorem test_channel_enable :
    let t := run .channelEnable (asked assigned .crew .channelEnable 0x0015#16 0 0 0)
    t.roster.enabled = 0x015#12 ∧ (t.channel 1).enabled = false ∧ (t.seat 10).language = some 1
      ∧ t.roster.changeCount = 0 := by decide

/-! ## Lights -/

/-- Scene 4 of the worked sequence of 08: 200 for zones 0 to 5, 120 for 6 and 7, rate 10, zone 7 exempt. -/
def evening : State :=
  withLights State.reset fun l =>
    { l with scenes := l.scenes.set 4 ⟨#v[200, 200, 200, 200, 200, 200, 120, 120], 10, 0x80#8⟩ }

theorem test_scene :
    let t := run .scene (asked evening .crew .scene 4 0 0 0)
    (t.lights.zones[0]).target = 200 ∧ (t.lights.zones[0]).current = 0 ∧ t.lights.sceneInForce = some 4
      ∧ t.lights.rate = 10 := by decide

/-- The first fade step: every level 10; zone 0 at 10 × 128 ÷ 256 = 5, the exempt zone 7 at 10 (08). -/
theorem test_fade_step :
    let t := run .fadeStep (run .scene (asked evening .crew .scene 4 0 0 0))
    t.lights.zones[0] = ⟨10, 200, 5, 0, .scaled⟩ ∧ t.lights.zones[7] = ⟨10, 120, 10, 0, .exempt⟩ := by decide

theorem test_pwm_period :
    let s := withLights State.reset fun l => { l with zones := l.zones.set 2 ⟨80, 80, 40, 0, .scaled⟩ }
    let t := run .pwmPeriodStart s
    (t.lights.zones[2]).applied = 40 ∧ t.lights.nextPwm = 8000 := by decide

theorem test_conversion_start :
    let t := run .conversionStart (withLights State.reset fun l => { l with run := false })
    t.lights.run = true ∧ t.lights.conversionEnd = 500050 := by decide

/-- A sample of 95 with the candidate NIGHT at 3 makes the class NIGHT (08). -/
theorem test_conversion_complete :
    let t := run (.conversionComplete 95) (withLights State.reset fun l =>
      { l with candidate := some .night, candidateCount := 3 })
    t.lights.ambient = .night ∧ t.lights.candidate = none ∧ t.lights.sample = 95 ∧ t.lights.run = false := by decide

/-- A sample equal to a threshold indicates DUSK (R173). -/
theorem test_conversion_at_threshold :
    let t := run (.conversionComplete 120) (withLights State.reset fun l =>
      { l with candidate := some .night, candidateCount := 3 })
    t.lights.ambient = .dusk ∧ t.lights.candidate = none := by decide

/-- A FLASH change handed on. -/
def flashing : State := withQueue State.reset fun q => { q with flash := true, handed := [.flash true] }

theorem test_flash_change :
    let t := run .flashChange flashing
    t.lights.flashActive = true ∧ (t.lights.zones[7]).pending = 255 ∧ (t.lights.zones[0]).pending = 0
      ∧ t.lights.flashTimer = some 250000 ∧ t.queue.handed = [] := by decide

theorem test_flash_half_period :
    let s := withLights State.reset fun l => { l with flashActive := true, flashTimer := some 250000 }
    let t := run .flashHalfPeriodExpiry s
    t.lights.phaseOn = false ∧ (t.lights.zones[7]).pending = 0 ∧ t.lights.flashTimer = some 500000 := by decide

theorem test_safety_change :
    let t := run .safetyChange (withQueue State.reset fun q => { q with safety := true, handed := [.safety true] })
    (t.lights.zones[3]).pending = 255 ∧ (t.lights.zones[3]).mode = .safety := by decide

/-! ## Ports -/

/-- The word goes to the next register after it (R183). -/
theorem test_go_issues :
    let t := run (.registerWrite .fare 4 0x800B#16) (within State.reset .fare (.writing 4))
    (t.port .fare).busy = some ⟨.releaseAll, ⟨0, 0, 0, 0⟩⟩ ∧ (t.port .fare).transaction = .writing 5 := by decide

theorem test_go_no_right :
    let t := run (.registerWrite .fare 4 0x8001#16) (within State.reset .fare (.writing 4))
    (t.port .fare).busy = none ∧ (t.port .fare).result = .noRight ∧ (t.port .fare).notices = 1 := by decide

theorem test_notices_write :
    let s := State.reset.modPort .crew fun x => { x with notices := 0x8001#16 }
    let t := run (.noticesWrite .crew 0x8000#16) (within s .crew (.writing 2))
    (t.port .crew).notices = 0x0001#16 := by decide

/-- Unmasking a notice that is set asserts the line at once (R193). -/
theorem test_notice_mask_write :
    let s := within (State.reset.modPort .crew fun x => { x with notices := 0x8000#16 }) .crew (.writing 3)
    attention s .crew = false ∧ attention (run (.noticeMaskWrite .crew 0x7FFF#16) s) .crew = true := by decide

theorem test_port_status_write :
    let t := run (.portStatusWrite .route 0x0020#16) (within State.reset .route (.writing 1))
    (t.port .route).deviceRestarted = false ∧ readRegister t .route 1 = 0 := by decide

theorem test_table_select :
    let s := within State.reset .route (.writing 11)
    let t := run (.tblSelectWrite .route 9) (within (run (.tblSelectWrite .route 8) s) .route (.writing 11))
    (t.port .route).table = .capture ∧ (t.port .route).access = .range := by decide

/-- SETTINGS word 0 reads the ratio, 8, and the pointer moves on; SDO carries the word, after TBL_POINTER's (R182). -/
theorem test_table_read :
    let s := within State.reset .fare (.reading 12)
    let t := run (.tblDataRead .fare true) s
    sdoPin s .fare none = .low ∧ sdoPin s .fare (some 0) = .word 0 ∧ sdoPin s .fare (some 1) = .word 8
      ∧ (t.port .fare).pointer = 1 ∧ (t.port .fare).access = .ok ∧ sdoPin t .fare (some 0) = .word 200 := by decide

/-- A ratio of 3 is no value; CREW does not own it (R4, R191). -/
theorem test_table_write_refused :
    let t := run (.tblDataWrite .route 3) (within State.reset .route (.writing 13))
    t.route.ratio = 8 ∧ (t.port .route).access = .value
      ∧ ((run (.tblDataWrite .crew 4) (within State.reset .crew (.writing 13))).port .crew).access = .noRight := by decide

theorem test_table_write :
    let t := run (.tblDataWrite .route 4)
      (within (withRoute State.reset fun r => { r with prescaler := 5 }) .route (.writing 13))
    t.route.ratio = 4 ∧ t.route.prescaler = 0 ∧ (t.port .route).pointer = 1 ∧ (t.port .route).transaction = .writing 13 := by
  decide

theorem test_position_read :
    let s := within around .crew (.reading 16)
    let t := run (.positionRead .crew) s
    (t.port .crew).snapshot = some ⟨1200, 0x0300#16, 0, 58400⟩ ∧ sdoPin s .crew (some 0) = .word 1200
      ∧ sdoPin t .crew (some 1) = .word 0x0300#16 := by decide

/-- The CREW port's return from SILENT (09, worked sequence): its timer restarts with 5 s and the others are told. Bit 7
of the address byte makes it a read, and bit 6 is ignored (R182). -/
theorem test_transaction_start :
    let s := State.reset.modPort .crew fun x => { x with silent := true, timeout := 5 }
    let t := run (.transactionStart ⟨.crew, some 0xCD#8⟩) s
    (t.port .crew).silent = false ∧ (t.port .crew).silenceTimer = some 5000000 ∧ (t.port .fare).notices = 0x4000#16
      ∧ (t.port .crew).notices = 0 ∧ (t.port .crew).transaction = .reading 13 := by decide

/-- A transaction that writes register 63 goes on to register 0; CS# rising ends it (R182, R183). -/
theorem test_transaction_end :
    let s := run (.registerWrite .crew 63 5) (run (.transactionStart ⟨.crew, some 0x3F#8⟩) State.reset)
    let t := run (.transactionEnd .crew) s
    (s.port .crew).transaction = .writing 0 ∧ (t.port .crew).transaction = .idle ∧ sdoPin t .crew none = .floating := by
  decide

/-- The crew console goes quiet during a page (09, worked sequence). -/
theorem test_silence :
    let s := withScript (page.modPort .crew fun x => { x with timeout := 5, silenceTimer := some 5000000 })
      fun u => { u with claimant := some .crew, pendingSwitch := some ⟨3, 1500, 0⟩ }
    let t := run (.silenceTimerExpiry .crew) s
    (t.port .crew).silent = true ∧ t.script.claimant = none ∧ t.script.pendingSwitch = some ⟨3, 1500, 0⟩
      ∧ t.queue.entries = [] ∧ (t.port .route).notices = 0x4080#16 ∧ (t.port .crew).notices = 0x0080#16 := by decide

theorem test_prst_assert :
    let s := withScript State.reset fun u => { u with claimant := some .fare }
    let t := run (.prstAssert .fare) s
    (t.port .fare).prstHeld = true ∧ t.script.claimant = none := by decide

theorem test_prst_release :
    let t := run (.prstRelease .fare) (State.reset.modPort .fare fun x => { x with prstHeld := true })
    (t.port .fare).prstHeld = false ∧ (t.port .fare).portRestarted = true := by decide

/-- A word after the GO of the same transaction acts on the registers that the reset has left (R196). -/
theorem test_port_reset :
    let t := run (.portReset .route) (within State.reset .route (.writing 4))
    (t.port .route).portRestarted = true ∧ (t.port .route).result = .ok ∧ (t.port .route).notices = 1
      ∧ ((run (.registerWrite .route 5 7) t).port .route).args.a0 = 7 := by decide

theorem test_clear_counters :
    let s := State.reset.modCounters fun k => { k with cueDrops := 9 }
    (run (.clearCounters .crew) (within s .crew (.writing 4))).ports.counters = Counters.reset := by decide

/-- An empty queue lets a microsecond pass; a waiting command is taken from the front. -/
theorem test_step :
    (match step State.reset with
      | .next t => t.now
      | .fault _ => 0
      | .refused _ => 0) = 1
      ∧ (match step { State.reset with pending := [.liveTimerExpiry, .odometerPulse] } with
        | .next t => t.pending
        | .fault _ => []
        | .refused _ => []) = [.odometerPulse] := by decide

/-! ## States that meet the statements' hypotheses -/

theorem met_AStepRunsTheFrontCommandOrIdles : State.reset.pending = [] := rfl

theorem met_DeviceResetAndItsRelease : State.held.resetHeld = true ∧ State.reset.resetHeld = false := ⟨rfl, rfl⟩

/-- About to complete a metre. -/
def nearly : State := withRoute around fun r => { r with prescaler := 7 }

/-- A pulse that is not counted, one that only counts, a metre with no switch pending, with one whose point it does not
reach, and with one that it makes late at the wrap. -/
theorem met_OdometerPulsesCountMetres :
    (∀ s ∈ [State.held, around, nearly], s.route.lap < 16 ∧ 1 ≤ s.route.loopLength)
      ∧ State.held.resetHeld = true ∧ around.resetHeld = false ∧ around.route.prescaler + 1 < around.route.ratio
      ∧ nearly.resetHeld = false ∧ nearly.route.ratio ≤ nearly.route.prescaler + 1 ∧ nearly.script.pendingSwitch = none
      ∧ (let s := withScript nearly fun u => { u with pendingSwitch := some ⟨3, 1202, 0⟩ }
        (∀ w ∈ s.script.pendingSwitch,
          ¬(w.lap = (Claims.metreOn s.route).lap ∧ w.position = (Claims.metreOn s.route).distance)))
      ∧ (let s := withScript (withRoute nearly fun r => { r with distance := 4799 })
          fun u => { u with pendingSwitch := some ⟨3, 4700, 15⟩ }
        (Claims.metreOn s.route).distance = 0 ∧ (Claims.metreOn s.route).lap = (3 + 1) % 16
          ∧ (∀ w ∈ s.script.pendingSwitch,
            ¬(w.lap = (Claims.metreOn s.route).lap ∧ w.position = (Claims.metreOn s.route).distance))) := by decide

/-- A metre before the switch point of the worked sequence of 02. -/
def beforePoint : State :=
  withScript (withRoute switchable fun r => { r with distance := 2999, prescaler := 7 })
    fun u => { u with pendingSwitch := some ⟨6, 3000, 0⟩ }

theorem met_AnAdvanceToTheSwitchPointSwitches :
    beforePoint.resetHeld = false ∧ beforePoint.route.ratio ≤ beforePoint.route.prescaler + 1 ∧ beforePoint.route.lap < 16
      ∧ 1 ≤ beforePoint.route.loopLength ∧ beforePoint.script.pendingSwitch = some ⟨6, 3000, 0⟩
      ∧ 6 = (Claims.metreOn beforePoint.route).lap ∧ 3000 = (Claims.metreOn beforePoint.route).distance := by decide

/-- A FIX at 1,200 on the loop of 4,800: the last distance that is none, lap 16, no move, and one metre past the jump
window. -/
theorem met_FixIsRefusedStaysOrSeeks :
    let s (q lap : Word) := asked around .route .fix q lap 0 0
    (s 4800 0xFFFF#16).inHand .route .fix = some ⟨4800, 0xFFFF#16, 0, 0⟩ ∧ (s 4800 0xFFFF#16).route.loopLength ≤ 4800
      ∧ (s 4799 16).inHand .route .fix = some ⟨4799, 16, 0, 0⟩ ∧ ¬((16 : Word).toNat ≤ 15 ∨ (16 : Word) = 0xFFFF#16)
      ∧ (s 1200 15).inHand .route .fix = some ⟨1200, 15, 0, 0⟩ ∧ (s 1200 15).route.distance = 1200
      ∧ (s 1401 15).inHand .route .fix = some ⟨1401, 15, 0, 0⟩ ∧ (s 1401 15).route.jumpWindow < 1401 - 1200 := by decide

theorem met_FixTimerAndSpeedWindow :
    around.route.fixTimer = some 30000000 ∧ State.reset.route.fixTimer = none ∧ State.reset.resetHeld = false := by decide

/-- Port `q` holds the claim and port `p` has a request in hand. -/
def claimed (q : Option Port) (p : Port) (k : RequestKind) : State :=
  asked (withScript State.reset fun u => { u with claimant := q }) p k 0 0 0 0

theorem met_ShadowClaimsAndTheCancelledSwitch :
    let s := claimed (some .crew) .crew .cancelSwitch
    let s' := withScript s fun u => { u with pendingSwitch := some ⟨6, 3000, 0⟩ }
    (∀ q ∈ [none, some Port.route, some .crew, some .fare],
      (claimed q .fare .claimShadow).inHand .fare .claimShadow = some ⟨0, 0, 0, 0⟩
        ∧ (claimed q .fare .claimShadow).script.claimant = q)
      ∧ (∀ q ∈ [none, some Port.crew],
        (claimed q .crew .releaseShadow).inHand .crew .releaseShadow = some ⟨0, 0, 0, 0⟩
          ∧ (claimed q .crew .releaseShadow).script.claimant = q)
      ∧ (claimed none .crew .cancelSwitch).inHand .crew .cancelSwitch = some ⟨0, 0, 0, 0⟩
      ∧ s.inHand .crew .cancelSwitch = some ⟨0, 0, 0, 0⟩ ∧ s.script.claimant = some .crew ∧ s.script.pendingSwitch = none
      ∧ s'.inHand .crew .cancelSwitch = some ⟨0, 0, 0, 0⟩ ∧ s'.script.pendingSwitch.isSome = true := by decide

theorem met_SwitchIsRefused :
    let s := withScript switchable fun u => { u with pendingSwitch := some ⟨6, 3000, 0⟩ }
    (claimed none .crew .switch).inHand .crew .switch = some ⟨0, 0, 0, 0⟩
      ∧ (asked s .route .switch 0 3000 0 0).inHand .route .switch = some ⟨0, 3000, 0, 0⟩
      ∧ s.script.claimant = some .route ∧ s.script.pendingSwitch.isSome = true
      ∧ (claimed (some .crew) .crew .switch).script.shadowBank.loopLength < 100
      ∧ switchable.script.pendingSwitch = none ∧ switchable.route.loopLength ≤ 4800 := by decide

/-- A second cue before the first fails for order, at index 1. -/
def disordered : State :=
  let b := switchable.script.bank1
  withScript switchable fun u =>
    { u with bank1 := { b with cueCount := 2, slots := b.slots.set 1 ⟨29, 0x8000#16, 7, 0⟩ } }

theorem met_SwitchIsRefusedForACue :
    let b := disordered.script.shadowBank
    disordered.script.claimant = some .route ∧ disordered.script.pendingSwitch = none ∧ 100 ≤ b.loopLength
      ∧ 3000 < disordered.route.loopLength ∧ 1 < b.cueCount
      ∧ ¬Claims.cuePasses b.loopLength (Claims.before b 1) b.slots[1]
      ∧ Claims.cuePasses b.loopLength (Claims.before b 0) b.slots[0] := by decide

set_option maxRecDepth 20000 in
/-- A switch position at the distance counter is late; one metre on it is not. -/
theorem met_SwitchIsRecorded :
    switchable.script.claimant = some .route ∧ switchable.script.pendingSwitch = none
      ∧ Claims.scriptValid switchable.script.shadowBank 2850 switchable.route.loopLength
      ∧ 2850 ≤ switchable.route.distance ∧ switchable.route.distance < 2851 := by decide

theorem requestLevel_fetching : ∀ c : ChannelNo, Claims.requestLevel (fetching.channel c) = if c = 3 then some 1 else none := by
  decide

theorem requestLevel_playing :
    ∀ c : ChannelNo, Claims.requestLevel ((playing Buffer.empty).channel c) = if c = 3 then some 2 else none := by decide

theorem met_ReadStartServesTheHighestRequest :
    State.reset.reader.inFlight.isSome = true ∧ fetching.resetHeld = false ∧ fetching.reader.inFlight = none
      ∧ fetching.reader.catalogue ≠ .bad ∧ Claims.isServed fetching 3 1 ∧ (fetching.channel 3).fetch = .pending 9
      ∧ (playing Buffer.empty).reader.inFlight = none ∧ Claims.isServed (playing Buffer.empty) 3 2
      ∧ ((playing Buffer.empty).channel 3).audioRequest = some (.x, ⟨9, 0⟩)
      ∧ ((playing Buffer.empty).channel 3).playhead.entry = some ⟨200, 2⟩ := by
  refine ⟨rfl, rfl, rfl, by decide, ⟨by decide, ?_⟩, by decide, rfl, ⟨by decide, ?_⟩, by decide, by decide⟩
  · intro d m h
    rw [requestLevel_fetching] at h
    split at h <;> simp_all
  · intro d m h
    rw [requestLevel_playing] at h
    split at h <;> simp_all

theorem met_AudioReadsAreRequestedAndTaken :
    audioInFlight.reader.inFlight = some ⟨.audio 3 .x ⟨9, 0⟩, 102400, 512, 1250⟩ ∧ (audioInFlight.channel 3).listened = true
      ∧ (audioInFlight.channel 3).playhead.tag = some ⟨9, 0⟩ ∧ (audioInFlight.channel 3).toggle = .x
      ∧ (∀ r ∈ State.reset.reader.inFlight, r.kind = .header) := by decide

theorem met_TheHeaderReadJudgesTheCatalogue :
    State.reset.reader.inFlight = some ⟨.header, 0, 64, 250⟩ ∧ fetching.reader.inFlight = none := by decide

/-- A record whose entry for channel 3 starts at 200 with this length, and whose next-group field is `next`. -/
def record3 (length next : Nat) : Vector Byte 64 :=
  bytes64 ([0, 0, 0, 0, 0, 0, 0, 0, 0, 0, 0, 0, 0, 200, 0, length] ++ List.replicate 32 0 ++ [next / 256, next % 256, 0])

theorem met_ADirectoryFetchIsHandedToItsChannel :
    inFlight.reader.inFlight = some ⟨.directory 3, 1088, 64, 250⟩ ∧ (inFlight.channel 3).fetch = .inFlight 9
      ∧ (inFlight.channel 3).playhead = .chain ⟨9, 0, 1, 9, .awaiting, false⟩
      ∧ 129 ≤ 200 ∧ 200 + 2 ≤ inFlight.reader.storeSize ∧ 19 < inFlight.reader.groupCount
      ∧ inFlight.reader.groupCount ≤ 20 ∧ 1 + 1 ≤ inFlight.engine.chainLimit
      ∧ (record3 2 0xFFFF)[13].toNat = 200 ∧ (record3 2 0xFFFF)[15].toNat = 2 ∧ (record3 0 19)[15].toNat = 0
      ∧ (record3 0 19)[48].toNat * 256 + (record3 0 19)[49].toNat = 19
      ∧ (record3 0 0xFFFF)[48].toNat * 256 + (record3 0 0xFFFF)[49].toNat = 0xFFFF := by decide

/-- An abandoned fetch leaves the channel with no request in flight. -/
theorem met_AnAbandonedFetch :
    let s := inFlight.modChannel 3 fun ch => { ch with fetch := .none }
    s.reader.inFlight = some ⟨.directory 3, 1088, 64, 250⟩ ∧ (s.channel 3).fetch = .none := by decide

/-- A chain that awaits a record, keeps time between groups, and looks ahead while its group plays; a record with a
playable entry of 2 blocks, an absent one and an invalid one; an offset within the entry and at its length. -/
theorem met_ADirectoryFetchInEachPhase :
    (∀ k ∈ [(⟨9, 1, 1, 9, .awaiting, false⟩ : Chain), ⟨9, 2, 1, 9, .awaiting, false⟩, ⟨9, 0, 1, 9, .between 2, false⟩,
        ⟨9, 0, 1, 9, .playing ⟨200, 4⟩ false (.walking 12 2), false⟩],
      let s := inFlight.modChannel 3 fun ch => { ch with playhead := .chain k }
      s.reader.inFlight = some ⟨.directory 3, 1088, 64, 250⟩ ∧ (s.channel 3).fetch = .inFlight 9
        ∧ (s.channel 3).playhead = .chain k)
      ∧ (let b := bytes64 [0, 0, 0, 0, 0, 0, 0, 0, 0, 0, 0, 0, 0, 128, 0, 2]
        b[13].toNat < 129 ∧ b[15].toNat = 2)
      ∧ inFlight.engine.chainLimit < 16 + 1 := by decide

theorem met_ABlockBoundarySettlesEveryChannel :
    State.held.resetHeld = true ∧ (playing Buffer.empty).resetHeld = false
      ∧ ((playing Buffer.empty).channel 3).enabled = true ∧ ((playing Buffer.empty).channel 4).enabled = false := by decide

/-- Entry 21 offered to the listened channel 2, and a page offered to channel 1. -/
def offered : State :=
  announced.modChannel 2 fun ch => { ch with listened := true, offer := some ⟨21, .standard⟩ }

def paged : State :=
  (withQueue (withEnabled State.reset 0xFFF#12) fun q =>
    { q with
      lastId := 40, liveTimer := some 9000000
      entries := [⟨40, .live, .crew, .mic, false, false, none, .none, true, none, none,
        [⟨1, .opened, none, none⟩]⟩] }).modChannel 1 fun ch => { ch with offer := some ⟨40, .live⟩ }

set_option maxRecDepth 20000 in
theorem met_AnOfferedEntryBeginsOnAQuietChannel :
    (offered.resetHeld = false ∧ Safety.Queue offered ∧ Safety.Stacks offered ∧ (offered.channel 2).enabled = true
        ∧ (offered.channel 2).playState = .quiet ∧ (offered.channel 2).action = .none
        ∧ eligible offered.queue.entries 2 = some ⟨21, .standard⟩ ∧ (offered.channel 2).offer = some ⟨21, .standard⟩
        ∧ (offered.channel 2).listened = true ∧ 7 < offered.reader.groupCount
        ∧ offered.queue.entries.map (·.content) = [.clip 7])
      ∧ (Safety.Queue paged ∧ Safety.Stacks paged ∧ (paged.channel 1).enabled = true
        ∧ eligible paged.queue.entries 1 = some ⟨40, .live⟩ ∧ (paged.channel 1).offer = some ⟨40, .live⟩
        ∧ paged.queue.entries.map (·.content) = [.mic])
      ∧ (let s := withReader offered fun r => { r with groupCount := 7 }
        Safety.Queue s ∧ Safety.Stacks s ∧ s.queue.entries.map (·.content) = [.clip 7] ∧ s.reader.groupCount ≤ 7) :=
  ⟨by decide, by decide, by decide⟩

/-- An entry that owes channel 2 an obligation in this state. -/
def entryOn2 (id : Nat) (cls : AnnClass) (content : EntryContent) (state : ObState) : Entry :=
  ⟨id, cls, .crew, content, false, false, none, .none, true, none, none, [⟨2, state, some true, none⟩]⟩

/-- All channels enabled, these entries in the queue, and channel 2, LISTENED with its offer named, as `f` makes it. -/
def staged (entries : List Entry) (f : ChannelRec → ChannelRec) : State :=
  (withQueue (withEnabled (ready State.reset) 0xFFF#12) fun q => { q with lastId := 40, entries := entries }).modChannel 2
    fun ch => f { ch with listened := true, offer := eligible entries 2 }

/-- Channel 2 plays group 9, in this phase of its chain. -/
def inChain (state : PlayState) (phase : ChainPhase) (ch : ChannelRec) : ChannelRec :=
  { ch with playState := state, itemClass := .commentary, playhead := .chain ⟨9, 0, 1, 9, phase, false⟩ }

/-- Channel 2 plays entry 21's clip, of this class, over this stack. -/
def inClip (cls : ItemClass) (finished : Bool) (stack : List Context) (ch : ChannelRec) : ChannelRec :=
  { ch with
    playState := .announce, itemClass := cls, stack := stack
    playhead := .clip ⟨21, 7, 1, some ⟨200, 4⟩, finished, finished⟩ }

/-- Channel 3 with block 0 of 2 due, its buffer holding the block or empty, and no offer. -/
theorem met_ADueBlockIsPlayedOrMissed :
    ∀ b ∈ [(⟨.player, some ⟨9, 0⟩, [0x7F#8]⟩ : Buffer), Buffer.empty],
      let s := playing b
      s.resetHeld = false ∧ (s.channel 3).enabled = true ∧ (s.channel 3).playState = .commentary
        ∧ (s.channel 3).action = .none ∧ (s.channel 3).offer = none ∧ eligible s.queue.entries 3 = none
        ∧ (s.channel 3).playhead = .chain ⟨9, 0, 1, 9, .playing ⟨200, 2⟩ false .ended, false⟩ ∧ 0 + 1 < 2
        ∧ Claims.goesOn s 3
        ∧ ((s.channel 3).buf (s.channel 3).toggle = b) := by
  intro b hb
  simp only [List.mem_cons, List.not_mem_nil, or_false] at hb
  obtain rfl | rfl := hb <;> exact ⟨by decide, by decide, by decide, by decide, by decide, by decide, rfl, by decide,
    .inl (by decide), rfl⟩

/-- Channel 2 in HOLD for entry 30 with one block left to play, in this phase of its chain. -/
def holding (phase : ChainPhase) : State :=
  staged [entryOn2 30 .standard (.clip 7) .opened] fun ch => { inChain .hold phase ch with hold := 1 }

/-- Channel 2 plays entry 21's clip, block 3 due, with the offer of an entry of its own class. -/
def clipDue (entry : Option LangEntry) : State :=
  staged [entryOn2 21 .standard (.clip 7) .playing, entryOn2 30 .standard (.clip 7) .opened] fun ch =>
    { inClip .standard false [] ch with playhead := .clip ⟨21, 7, 3, entry, false, false⟩ }

theorem holding_goesOn (phase : ChainPhase)
    (h : Claims.boundaryOn (holding phase) 2 ∧ ((holding phase).channel 2).offer = some ⟨30, .standard⟩) :
    Claims.goesOn (holding phase) 2 :=
  .inr ⟨h.1, rfl, fun o ho => by rw [h.2] at ho; cases ho; rfl, rfl, .inl (show 1 ≠ 0 by decide)⟩

/-- The last block of the group due in HOLD, for each way the walk ahead may stand, with an END link and a link to a
group; the record awaited; between groups; and the last block of a clip and a clip without its record. -/
theorem met_ADueBlockInEachPhase :
    Claims.goesOn (holding (.playing ⟨200, 1⟩ false (.walking 3 2))) 2
      ∧ Claims.goesOn (holding (.playing ⟨200, 1⟩ false .ended)) 2
      ∧ Claims.goesOn (holding (.playing ⟨200, 1⟩ false (.found 4 ⟨300, 2⟩ true 0xFFFF#16 2))) 2
      ∧ Claims.goesOn (holding (.playing ⟨200, 1⟩ false (.found 4 ⟨300, 2⟩ true 5 2))) 2
      ∧ Claims.goesOn (holding .awaiting) 2 ∧ Claims.goesOn (holding (.between 2)) 2
      ∧ Claims.linkTo (holding .awaiting) 0xFFFF 2 = none ∧ Claims.linkTo (holding .awaiting) 5 2 = some 5
      ∧ (Claims.boundaryOn (clipDue (some ⟨200, 4⟩)) 2 ∧ ((clipDue (some ⟨200, 4⟩)).channel 2).offer = some ⟨30, .standard⟩)
      ∧ Claims.boundaryOn (clipDue none) 2 ∧ ((clipDue none).channel 2).offer = some ⟨30, .standard⟩ :=
  ⟨holding_goesOn _ (by decide), holding_goesOn _ (by decide), holding_goesOn _ (by decide),
    holding_goesOn _ (by decide), holding_goesOn _ (by decide), holding_goesOn _ (by decide), by decide, by decide,
    ⟨by decide, rfl⟩, by decide, rfl⟩

set_option maxRecDepth 20000 in
/-- A START of a group in the catalogue and of one beyond it with no offer; a START in HOLD with a STANDARD offer; a
STOP without an offer and with one. -/
theorem met_StartAndStopAtABoundary :
    let e := entryOn2 21 .standard (.clip 7) .opened
    (∀ g ∈ [9, 20], Claims.boundaryOn (staged [] fun ch => { ch with action := .start g 0 }) 2)
      ∧ (let s := staged [e] fun ch => { inChain .hold .awaiting ch with action := .start 9 0 }
        Claims.boundaryOn s 2 ∧ (∀ o ∈ (s.channel 2).offer, o.cls = .standard ∧ 0 < s.engine.holdAdvance)
          ∧ 9 < s.reader.groupCount ∧ s.reader.groupCount ≤ 20 ∧ 1 ≤ s.engine.chainLimit)
      ∧ Claims.boundaryOn (staged [] fun ch => { inChain .commentary .awaiting ch with action := .stop }) 2
      ∧ (let s := staged [e] fun ch => { ch with action := .stop }
        Claims.boundaryOn s 2 ∧ e ∈ s.queue.entries ∧ (s.channel 2).offer = some ⟨e.id, e.cls⟩ ∧ Claims.mayBegin s 2 e) := by
  exact ⟨by decide, by decide, by decide, by decide, by decide, by decide, rfl, by decide⟩

set_option maxRecDepth 20000 in
/-- A chain that has ended, a stopped page, a clip reported already, and a finished clip that owes its END. -/
theorem met_AnItemEndsAtABoundary :
    let e := entryOn2 21 .standard (.clip 7) .playing
    let s := staged [e] fun ch =>
      { inClip .standard true [] ch with playhead := .clip ⟨21, 7, 4, some ⟨200, 4⟩, true, false⟩ }
    (∀ s ∈ [staged [] (inChain .commentary .ended), staged [] (inClip .standard true []),
        staged [] fun ch => { ch with playState := .live, itemClass := .live, playhead := .mic 21 true }],
      Claims.boundaryOn s 2 ∧ (s.channel 2).offer = none ∧ (s.channel 2).stack = [])
      ∧ Claims.boundaryOn s 2 ∧ (s.channel 2).offer = none ∧ (s.channel 2).stack = []
      ∧ s.queue.entries = [e] ∧ (∃ o ∈ e.obligations, o.channel = 2 ∧ o.state = .playing)
      ∧ (∀ o ∈ e.obligations, o.channel ≠ 2 → o.state = .heard) :=
  ⟨by decide, by decide, rfl, rfl, rfl, by decide, by decide⟩

set_option maxRecDepth 20000 in
/-- An EXPRESS offer on commentary, a STANDARD one in HOLD with the hold over and with it running, an EXPRESS offer at a
START, and a page on an EXPRESS clip over a full stack. -/
theorem met_CutsPushTheirContext :
    let e := entryOn2 30 .express (.clip 7) .opened
    let e' := entryOn2 30 .standard (.clip 7) .opened
    let l := entryOn2 30 .live .mic .opened
    let s1 := staged [e] (inChain .commentary (.between 2))
    let s2 (n : Nat) := staged [e'] fun ch => { inChain .hold .awaiting ch with hold := n }
    let s3 := staged [e] fun ch => { ch with action := .start 9 0 }
    let x := entryOn2 21 .express (.clip 7) .playing
    let s4 := staged [l, x] (inClip .express false [.announcement 20 .standard, .commentary ⟨9, 0, 1, 9, 0⟩])
    (Claims.boundaryOn s1 2 ∧ (s1.channel 2).offer = some ⟨30, .express⟩ ∧ Claims.mayBegin s1 2 e)
      ∧ (Claims.boundaryOn (s2 0) 2 ∧ Claims.mayBegin (s2 0) 2 e' ∧ Claims.unbroken ⟨9, 0, 1, 9, .awaiting, false⟩ = false)
      ∧ Claims.boundaryOn (s2 3) 2
      ∧ (Claims.boundaryOn s3 2 ∧ Claims.mayBegin s3 2 e ∧ 1 ≤ s3.engine.chainLimit ∧ 9 < s3.reader.groupCount)
      ∧ (Claims.boundaryOn s4 2 ∧ (s4.channel 2).offer = some ⟨30, .live⟩ ∧ Claims.mayBegin s4 2 l
        ∧ (s4.channel 2).stack.length = 2 ∧ x ∈ s4.queue.entries ∧ ∃ o ∈ x.obligations, o.channel = 2 ∧ o.state = .playing) := by
  exact ⟨⟨by decide, rfl, rfl, by decide⟩, ⟨by decide, ⟨rfl, by decide⟩, rfl⟩, by decide,
    ⟨by decide, ⟨rfl, by decide⟩, by decide, by decide⟩, ⟨by decide, rfl, trivial, rfl, by decide, by decide⟩⟩

set_option maxRecDepth 20000 in
/-- A STANDARD turn on a QUIET channel and an EXPRESS one on a STANDARD clip, not LISTENED; a CUT entry and one that is
not on top of the stack; a commentary context within its window, past the chain limit, beyond the window and below an
offered entry. -/
theorem met_TurnsRestartsAndResumes :
    let out (f : ChannelRec → ChannelRec) (ch : ChannelRec) : ChannelRec := { f ch with listened := false }
    let k : CommentaryContext := ⟨9, 3, 1, 9, 0⟩
    let e := entryOn2 30 .express (.clip 7) .opened
    let c := entryOn2 20 .standard (.clip 7) .cut
    let done := inClip .express true
    let late (s : State) : State := { s with engine := { s.engine with nextBoundary := 20000001 } }
    Claims.boundaryOn (staged [entryOn2 30 .standard (.clip 7) .opened] (out id)) 2
      ∧ Claims.boundaryOn (staged [e] (out (inClip .standard false []))) 2
      ∧ Claims.boundaryOn (staged [c] (done [.announcement 20 .standard])) 2
      ∧ Claims.boundaryOn (staged [] (done [.announcement 20 .standard])) 2
      ∧ (let s := staged [] (done [.commentary k])
        Claims.boundaryOn s 2 ∧ max s.now s.engine.nextBoundary - 0 ≤ s.engine.resumeWindow * 1000000
          ∧ 1 + 1 ≤ s.engine.chainLimit ∧ 9 < s.reader.groupCount
          ∧ (Claims.boundaryOn (late s) 2
            ∧ (late s).engine.resumeWindow * 1000000 < max (late s).now (late s).engine.nextBoundary - 0))
      ∧ (let s := staged [] (done [.commentary { k with walked := 16 }])
        Claims.boundaryOn s 2 ∧ s.engine.chainLimit < 16 + 1)
      ∧ (let s := staged [e] (done [.commentary k])
        Claims.boundaryOn s 2 ∧ e ∈ s.queue.entries ∧ (s.channel 2).offer = some ⟨30, .express⟩ ∧ Claims.mayBegin s 2 e) := by
  exact ⟨by decide, by decide, by decide, by decide, ⟨by decide, by decide, by decide, by decide, by decide, by decide⟩,
    ⟨by decide, by decide⟩, by decide, by decide, rfl, rfl, by decide⟩

set_option maxRecDepth 20000 in
theorem met_DeckSetsChannelAndVolume :
    (asked State.reset .crew .deck 12 16 0 0).inHand .crew .deck = some ⟨12, 16, 0, 0⟩
      ∧ (asked State.reset .crew .deck 11 15 0 0).inHand .crew .deck = some ⟨11, 15, 0, 0⟩
      ∧ (asked State.reset .crew .deck 0xFFFF#16 15 0 0).inHand .crew .deck = some ⟨0xFFFF#16, 15, 0, 0⟩
      ∧ Safety.Census (asked State.reset .crew .deck 11 15 0 0) := by decide

theorem met_AnnounceIsRefusedInOrderOrQueued :
    let a : Args := ⟨7, 0x0003#16, 100, 50⟩
    let s := asked announced .route .announce 7 0x0003#16 100 50
    Claims.announceRefusal (asked State.reset .route .announce 7 0x0003#16 100 50) .route a = some .notReady
      ∧ Claims.announceRefusal s .route ⟨7, 0x4003#16, 100, 50⟩ = some .noRight
      ∧ Claims.announceRefusal s .route ⟨1024, 0x0003#16, 100, 50⟩ = some .badArgument
      ∧ s.inHand .route .announce = some a ∧ Claims.announceRefusal s .route a = none ∧ Safety.Queue s
      ∧ Safety.Judged s ∧ s.route.trip < 4294967295
      ∧ Claims.announceRefusal s .route ⟨7, 0x0003#16, 0, 50⟩ = none
      ∧ (Claims.announced s .route ⟨7, 0x0003#16, 0, 50⟩ 22).launched = true
      ∧ (Claims.announced s .route ⟨7, 0x0003#16, 1, 50⟩ 22).launched = false := by decide

theorem met_CancelEndsTheEntry :
    (asked announced .crew .cancel 256 0 0 0).inHand .crew .cancel = some ⟨256, 0, 0, 0⟩
      ∧ (asked announced .crew .cancel 255 0 0 0).inHand .crew .cancel = some ⟨255, 0, 0, 0⟩
      ∧ (asked announced .crew .cancel 21 0 0 0).inHand .crew .cancel = some ⟨21, 0, 0, 0⟩
      ∧ Safety.Queue announced ∧ announced.queue.entries.map (·.id) = [21] := by decide

theorem met_LiveOnStartsAPage :
    let s := asked (withEnabled State.reset 0xFFF#12) .crew .liveOn 0 0x2FFF#16 0 0
    s.inHand .crew .liveOn = some ⟨0, 0x2FFF#16, 0, 0⟩ ∧ (s.port .crew).silent = false ∧ s.queue.entries = []
      ∧ Claims.obligationsFor s 0x2FFF#16 ≠ [] ∧ Safety.Queue s
      ∧ (asked State.reset .crew .liveOn 0 0x1001#16 0 0).inHand .crew .liveOn = some ⟨0, 0x1001#16, 0, 0⟩ := by decide

theorem met_APageEndsByLiveOffOrItsTimer :
    (asked page .crew .liveOff 0 0 0 0).inHand .crew .liveOff = some ⟨0, 0, 0, 0⟩ ∧ Safety.Queue page
      ∧ page.queue.entries.map (·.cls) = [.live] ∧ page.queue.liveTimer = some 9000000
      ∧ (∀ e ∈ page.queue.entries, ∀ o ∈ e.obligations, o.cause ≠ some .expiry)
      ∧ (asked State.reset .crew .liveOff 0 0 0 0).inHand .crew .liveOff = some ⟨0, 0, 0, 0⟩
      ∧ State.reset.queue.liveTimer = none := by decide

/-- The announced entry with its obligation PLAYING instead. -/
def soundingEntry : Entry :=
  ⟨21, .standard, .crew, .clip 7, false, false, none, .seconds 5, true, none, some 5000000, [⟨2, .playing, some true, none⟩]⟩

theorem met_TimersAndTripsLaunchAndExpire :
    Safety.Queue announced ∧ announced.queue.entries.map (·.timer) = [some 5000000]
      ∧ (∀ e ∈ announced.queue.entries, (∀ o ∈ e.obligations, o.state ≠ .playing)
        ∧ ∃ o ∈ e.obligations, o.state = .opened ∨ o.state = .cut)
      ∧ Safety.Queue (withQueue announced fun q => { q with entries := [soundingEntry] })
      ∧ (∃ o ∈ soundingEntry.obligations, o.state = .playing) ∧ soundingEntry.timer = some 5000000 := by decide

/-- Four entries for channel 2 a metre before the trip distance reaches them: a launch, a WAITING entry's launch and
expiry, an OPEN entry's expiry, and one of an entry that is PLAYING on channel 3; with no cue ahead. -/
def dueNext (s : State) : State :=
  let trip := s.route.trip + 1
  let entry (id : Nat) (launch : Option Nat) (expiry : Nat) (c : ChannelNo) (state : ObState) : Entry :=
    ⟨id, .standard, .route, .clip 7, false, false, launch, .trip expiry, launch.isNone, none, none, [⟨c, state, some true, none⟩]⟩
  let entries :=
    [entry 21 (some trip) (trip + 1) 2 .opened, entry 22 (some trip) trip 2 .opened, entry 23 none trip 2 .opened,
      entry 24 none trip 3 .playing]
  let s := withScript (withEnabled s 0xFFF#12) fun u => { u with pointer := 0, bank0 := { u.bank0 with cueCount := 0 } }
  (withQueue s fun q => { q with entries := entries }).modChannel 2 fun ch => { ch with offer := some ⟨23, .standard⟩ }

set_option maxRecDepth 20000 in
/-- An advance to 1,201, one that wraps, and a catch-up of one metre with the lap kept. -/
theorem met_AnAdvanceAndACatchUpAreJudged :
    let s := dueNext nearly
    let s' := dueNext (withRoute nearly fun r => { r with distance := 4799 })
    let f := asked s .route .fix 1201 0xFFFF#16 0 0
    (Safety.Queue s ∧ Safety.Offers s ∧ Safety.Hold s ∧ Safety.Signals s)
      ∧ (s.resetHeld = false ∧ s.route.ratio ≤ s.route.prescaler + 1 ∧ s.route.lap < 16 ∧ s.route.trip < 4294967295
        ∧ s.script.pendingSwitch = none ∧ Claims.noCueOwed s 0 1201)
      ∧ s.queue.entries.map (fun e => ((Claims.judged s (s.route.trip + 1) 3 1201 e).launched,
          (Claims.judged s (s.route.trip + 1) 3 1201 e).expiryTaken))
        = [(true, none), (false, some (3, 1201)), (true, some (3, 1201)), (true, some (3, 1201))]
      ∧ (s'.route.ratio ≤ s'.route.prescaler + 1 ∧ (Claims.metreOn s'.route).distance = 0 ∧ Claims.noCueOwed s' 0 0
        ∧ Safety.Queue s' ∧ Safety.Offers s' ∧ Safety.Hold s' ∧ Safety.Signals s')
      ∧ (f.inHand .route .fix = some ⟨1201, 0xFFFF#16, 0, 0⟩ ∧ f.route.distance < 1201
        ∧ 1201 - f.route.distance ≤ f.route.jumpWindow ∧ f.script.pendingSwitch = none
        ∧ Claims.noCueOwed f f.script.pointer 1201 ∧ Safety.Queue f ∧ Safety.Offers f ∧ Safety.Hold f
        ∧ Safety.Signals f) := by
  refine ⟨by decide, ⟨by decide, by decide, by decide, by decide, by decide, fun x h => absurd h (by decide)⟩, by decide,
    ⟨by decide, by decide, fun x h => absurd h (by decide), by decide, by decide, by decide, by decide⟩,
    by decide, by decide, by decide, by decide, fun x h => absurd h (by decide), by decide, by decide, by decide, by decide⟩

/-- Channel 2's clip awaits the record of group 7; reported already, or PLAYING as the entry's only obligation or as one
of two. -/
def fetchingClip (obligations : List Obligation) : State :=
  (withReader
    (staged [{ entryOn2 21 .standard (.clip 7) .playing with obligations := obligations }] (inClip .standard false []))
    fun r => { r with inFlight := some ⟨.directory 2, 960, 64, 250⟩ }).modChannel 2
      fun ch => { ch with playhead := .clip ⟨21, 7, 0, none, false, false⟩, fetch := .inFlight 7 }

set_option maxRecDepth 20000 in
theorem met_AClipRecordIsPlayedOrEndsTheClip :
    ∀ os ∈ [[(⟨2, .playing, some true, none⟩ : Obligation)], [⟨2, .playing, some true, none⟩, ⟨3, .opened, none, none⟩]],
      let s := fetchingClip os
      s.reader.inFlight = some ⟨.directory 2, 960, 64, 250⟩ ∧ (s.channel 2).fetch = .inFlight 7
        ∧ (s.channel 2).playhead = .clip ⟨21, 7, 0, none, false, false⟩ ∧ Safety.Queue s
        ∧ s.queue.entries.map (·.id) = [21] ∧ (∃ o ∈ os, o.channel = 2 ∧ o.state = .playing)
        ∧ 129 ≤ 200 ∧ 200 + 2 ≤ s.reader.storeSize := by decide

theorem met_CyclesStartAndPollsAreBuilt :
    let s := State.reset.modSegment 2 fun g => { g with inCycle := false }
    (State.reset.segment 2).cycleCount < 8 ∧ (State.reset.segment 2).inCycle = true ∧ s.resetHeld = false
      ∧ (s.segment 2).inCycle = false ∧ (State.reset.segment 2).cursor < 16 ∧ (State.reset.segment 2).poll = none
      ∧ (State.reset.seat (seatAt 2 0)).effective ≤ 15 := by decide

set_option maxRecDepth 20000 in
theorem met_GoodRepliesAndStationTables :
    let b : Vector Byte 4 := #v[0x05, 0xA0, 0x02, 0xFD]
    b[3] = checkByte [b[0], b[1], b[2]] ∧ b[0].toNat % 16 = 5 ∧ b[0].toNat % 16 ≠ 6
      ∧ (∀ x ∈ [Station.reset, ⟨.joining, 0, false, false⟩, ⟨.present, 2, false, false⟩, ⟨.lost, 31, false, false⟩],
        Safety.stationLawful x = true) := by decide

set_option maxRecDepth 20000 in
theorem met_AGoodReplyIsTakenWhole :
    let s := polled ⟨.present, 1, false, false⟩
    (s.segment 2).poll.isSome = true ∧ (s.segment 2).cursor < 16 ∧ (s.segment 2).cycleCount < 8
      ∧ parseReply #v[0x05, 0xA0, 0x02, 0xFD] (s.segment 2).cursor = some ⟨true, false, true, 0, 2⟩ := by decide

set_option maxRecDepth 20000 in
theorem met_AMissIsJudgedByTheMissTable :
    let s := polled ⟨.present, 2, true, false⟩
    (s.segment 2).poll.isSome = true ∧ (s.segment 2).cursor < 16 ∧ (s.segment 2).cycleCount < 8
      ∧ (s.seat (seatAt 2 5)).volume ≤ 15 ∧ parseReply #v[0x05, 0xA0, 0x02, 0xFE] (s.segment 2).cursor = none
      ∧ (State.reset.segment 2).poll = none
      ∧ (let s := polled ⟨.lost, 31, true, true⟩
        (s.station (seatAt 2 5)).fault = true ∧ (s.station (seatAt 2 5)).missed.fault = false) := by decide

/-- With only channel 3 enabled, a step up from channel 3 passes eleven channels and comes back to it. -/
theorem met_LanguageStepsAndTheLockIndicator :
    (0x008#12 : ChannelSet).getLsbD (Fin.ofNat 12 (3 + 1 + 11)).val = true
      ∧ (∀ n < 11, (0x008#12 : ChannelSet).getLsbD (Fin.ofNat 12 (3 + 1 + n)).val = false)
      ∧ ((withSeat State.reset 37 fun x => { x with lockTimer := some 2000000 }).seat 37).lockTimer = some 2000000
      ∧ (State.reset.seat 37).lockTimer = none := by decide

theorem met_AssignAndReleaseWriteSeats :
    let s (seat lang : Word) := asked (withEnabled State.reset 0x017#12) .fare .assign seat lang 0 0
    (s 96 1).inHand .fare .assign = some ⟨96, 1, 0, 0⟩ ∧ (s 95 0x0101#16).inHand .fare .assign = some ⟨95, 0x0101#16, 0, 0⟩
      ∧ (s 95 0x0101#16).roster.enabled.getLsbD 1 = true ∧ (0x0101#16).toNat % 256 = 1
      ∧ (s 95 3).roster.enabled.getLsbD 3 = false
      ∧ (asked assigned .fare .release 96 0 0 0).inHand .fare .release = some ⟨96, 0, 0, 0⟩
      ∧ (asked assigned .fare .release 95 0 0 0).inHand .fare .release = some ⟨95, 0, 0, 0⟩
      ∧ (asked assigned .fare .releaseAll 0 0 0 0).inHand .fare .releaseAll = some ⟨0, 0, 0, 0⟩ := by decide

set_option maxRecDepth 20000 in
/-- Channel 1 plays a page and channel 2 has a CUT entry below a PLAYING one; the set without them disables both. -/
theorem met_ChannelEnablePutsTheSetInForce :
    let s (set : Word) := asked page .crew .channelEnable set 0 0 0
    let c := entryOn2 20 .standard (.clip 7) .cut
    let s' := asked
      (staged [{ entryOn2 21 .express (.clip 7) .playing with cls := .express }, c]
        (inClip .express false [.announcement 20 .standard])) .crew .channelEnable 0x0FFB#16 0 0 0
    (s 4096).inHand .crew .channelEnable = some ⟨4096, 0, 0, 0⟩
      ∧ (s 0x0FFD#16).inHand .crew .channelEnable = some ⟨0x0FFD#16, 0, 0, 0⟩ ∧ Safety.Queue (s 0x0FFD#16)
      ∧ Safety.Disabled (s 0x0FFD#16) ∧ Safety.Playing (s 0x0FFD#16) ∧ Safety.Cut (s 0x0FFD#16)
      ∧ ((s 0x0FFD#16).channel 1).enabled = true
      ∧ (0x0FFD#16 : Word).getLsbD 1 = false ∧ (0x0FFD#16 : Word).getLsbD 2 = true
      ∧ s'.inHand .crew .channelEnable = some ⟨0x0FFB#16, 0, 0, 0⟩ ∧ Safety.Queue s' ∧ Safety.Disabled s'
      ∧ Safety.Playing s' ∧ Safety.Cut s' ∧ c ∈ s'.queue.entries :=
  ⟨rfl, rfl, by decide, by decide, by decide, by decide, by decide, by decide, by decide, rfl, by decide, by decide,
    by decide, by decide, by decide⟩

/-- A sample of 95 indicates NIGHT and one of 120 DUSK: the class in force, a new class, and a candidate at 2 and 3. -/
theorem met_TheLightClocksAndTheConverter :
    State.held.resetHeld = true ∧ State.reset.resetHeld = false ∧ State.held.lights.run = false
      ∧ State.reset.lights.run = true ∧ State.reset.lights.ambient = .dusk ∧ State.reset.lights.candidate = none
      ∧ 95 < State.reset.lights.nightThreshold ∧ ¬120 < State.reset.lights.nightThreshold
      ∧ (∀ n ∈ [2, 3], let l := (withLights State.reset fun l =>
          { l with candidate := some .night, candidateCount := n }).lights
        l.run = true ∧ l.candidate = some .night ∧ l.candidateCount = n ∧ l.ambient ≠ .night) := by decide

theorem met_ScenesFlashAndSafetyDriveTheZones :
    flashing.queue.handed = [.flash true] ∧ flashing.lights.flashActive = false ∧ State.reset.queue.handed = []
      ∧ (withQueue State.reset fun q => { q with handed := [.safety true, .flash false] }).queue.handed
        = [.safety true, .flash false]
      ∧ (withLights State.reset fun l => { l with flashActive := true, flashTimer := some 250000 }).lights.flashTimer
        = some 250000
      ∧ State.reset.lights.flashTimer = none
      ∧ (asked evening .crew .scene 16 0 0 0).inHand .crew .scene = some ⟨16, 0, 0, 0⟩
      ∧ (asked evening .crew .scene 15 0 0 0).inHand .crew .scene = some ⟨15, 0, 0, 0⟩ := by decide

/-- A metre before cue `q` of position 1,201, the only cue of the active bank. -/
def beforeCue (q : CueSlot) : State :=
  let b := nearly.script.bank0
  ready (withScript (withEnabled nearly 0x0FF#12) fun u =>
    { u with bank0 := { b with cueCount := 1, slots := b.slots.set 0 q } })

/-- An ANNOUNCE cue for channels 0 and 1; the other kinds differ in bits 15 to 13 of its second word alone. -/
def announceCue : CueSlot := ⟨1201, 0x4003#16, 7, 50⟩

theorem beforeCue_slot (q : CueSlot) :
    (beforeCue q).script.activeBank.slots[(beforeCue q).script.pointer]? = some q := rfl

theorem met_AnAdvanceFiresTheCuesItReaches :
    let s := beforeCue announceCue
    s.resetHeld = false ∧ s.route.ratio ≤ s.route.prescaler + 1 ∧ s.route.lap < 16 ∧ 1 ≤ s.route.loopLength
      ∧ (Claims.metreOn s.route).distance = 1201 ∧ s.route.trip + 1 < 4294967295 ∧ s.script.pendingSwitch = none ∧ s.queue.entries = []
      ∧ s.script.pointer < s.script.activeBank.cueCount ∧ announceCue.w0.toNat = s.route.distance + 1
      ∧ ¬s.script.pointer + 1 < s.script.activeBank.cueCount ∧ s.reader.catalogue = .ready ∧ s.route.stale = false := by
  decide

/-- Two COMMENTARY cues for channel 1 at one metre, and a metre before the wrap at position 0. -/
theorem met_AnAdvanceFiresSeveral :
    let two (q : CueSlot) := withScript (beforeCue q) fun u =>
      { u with bank0 := { u.bank0 with cueCount := 2, slots := (u.bank0.slots.set 0 q).set 1 { q with w2 := 8 } } }
    let s := two ⟨1201, 0x0003#16, 7, 0⟩
    let w := withRoute (two ⟨0, 0x0003#16, 7, 0⟩) fun r => { r with distance := 4799 }
    s.script.activeBank.slots.toList.take 2 = [⟨1201, 0x0003#16, 7, 0⟩, ⟨1201, 0x0003#16, 8, 0⟩]
      ∧ s.script.activeBank.cueCount = 2 ∧ (Claims.metreOn s.route).distance = 1201 ∧ s.script.pointer = 0
      ∧ (s.channel 1).enabled = true ∧ (s.channel 1).playState = .quiet ∧ s.reader.catalogue = .ready
      ∧ w.script.activeBank.slots.toList.take 2 = [⟨0, 0x0003#16, 7, 0⟩, ⟨0, 0x0003#16, 8, 0⟩]
      ∧ (Claims.metreOn w.route).distance = 0 ∧ (run .odometerPulse w).script.pointer = 2
      ∧ ((run .odometerPulse w).channel 1).action = .start 8 w.now := by
  decide

/-- Each kind of cue, a target set for the ANNOUNCE cue, and a queue with room. -/
theorem met_AnAdvanceFiresEachKind :
    [0x0003#16, 0x2003#16, 0x4003#16, 0x6000#16, 0x8000#16].map (fun w => w.toNat / 8192) = [0, 1, 2, 3, 4]
      ∧ Claims.obligationsFor (beforeCue announceCue) announceCue.w1 ≠ [] ∧ Safety.Queue (beforeCue announceCue)
      ∧ announceCue.w2.getLsbD 13 = false ∧ 0 < announceCue.w3.toNat % 4096 := by decide

/-- An ANNOUNCE cue flagged NEEDS_FIX while STALE, and one for channels that are not enabled. -/
theorem met_AnAdvanceDropsACue :
    let q : CueSlot := ⟨1201, 0x4003#16, 0x2007#16, 50⟩
    let s := withRoute (beforeCue q) fun r => { r with stale := true }
    let q' : CueSlot := ⟨1201, 0x4F00#16, 7, 50⟩
    s.script.activeBank.slots[s.script.pointer]? = some q ∧ s.route.stale = true ∧ q.w2.getLsbD 13 = true
      ∧ (beforeCue q').script.activeBank.slots[(beforeCue q').script.pointer]? = some q'
      ∧ Claims.obligationsFor (beforeCue q') q'.w1 = [] := ⟨rfl, rfl, by decide, rfl, by decide⟩

/-- A walk of the whole jump window and one across the wrap, with no switch pending; a switch one metre on; and a cue at
the fixed distance, which the walk passes. -/
theorem met_AFixWithinTheWindowCatchesUp :
    let s := asked around .route .fix 1400 0xFFFF#16 0 0
    let s' := asked (withRoute around fun r => { r with distance := 4790 }) .route .fix 10 4 0 0
    let w := asked (withScript around fun u => { u with pendingSwitch := some ⟨3, 1201, 0⟩ }) .route .fix 1400 15 0 0
    let c := asked (beforeCue announceCue) .route .fix 1201 0xFFFF#16 0 0
    (s.inHand .route .fix = some ⟨1400, 0xFFFF#16, 0, 0⟩ ∧ s.script.pendingSwitch = none
        ∧ s.route.distance < s.route.loopLength ∧ s.route.lap < 16 ∧ 1400 < s.route.loopLength
        ∧ s.route.distance ≤ 1400 ∧ 1400 - s.route.distance ≤ s.route.jumpWindow)
      ∧ (s'.inHand .route .fix = some ⟨10, 4, 0, 0⟩ ∧ s'.script.pendingSwitch = none
        ∧ s'.route.distance < s'.route.loopLength ∧ ¬s'.route.distance ≤ 10
        ∧ s'.route.loopLength - s'.route.distance + 10 ≤ s'.route.jumpWindow)
      ∧ (w.inHand .route .fix = some ⟨1400, 15, 0, 0⟩ ∧ w.script.pendingSwitch = some ⟨3, 1201, 0⟩
        ∧ (Claims.metreOn^[1] w.route).lap = 3 ∧ (Claims.metreOn^[1] w.route).distance = 1201)
      ∧ (c.inHand .route .fix = some ⟨1201, 0xFFFF#16, 0, 0⟩ ∧ c.script.pendingSwitch = none
        ∧ c.route.distance < announceCue.w0.toNat ∧ announceCue.w0.toNat ≤ 1201 ∧ c.queue.entries = []
        ∧ c.script.pointer < c.script.activeBank.cueCount ∧ ¬c.script.pointer + 1 < c.script.activeBank.cueCount
        ∧ c.reader.catalogue = .ready ∧ Claims.obligationsFor c announceCue.w1 ≠ [] ∧ Safety.Queue c) := by decide

theorem met_GoIssuesTheRequest :
    Claims.atRegister (within State.reset .fare (.writing 4)) .fare 4 ∧ ¬Claims.atRegister State.reset .fare 4
       ∧ (0x8009#16).getLsbD 15 = true ∧ ((within State.reset .fare (.writing 4)).port .fare).busy = none
      ∧ Claims.requests[9 - 1]? = some .assign ∧ Claims.rights[9 - 1]? = some [.fare]
      ∧ Claims.requests[18 - 1]? = some .portReset ∧ Claims.rights[1 - 1]? = some [.route] ∧ Port.fare ∉ [Port.route]
      ∧ (0x8013#16).toNat % 64 = 19 ∧ (0x0009#16).getLsbD 15 = false := by decide

theorem met_AGoWhileBusyIsAnOverrun :
    let s := within (asked State.reset .fare .assign 0 0 0 0) .fare (.writing 4)
    Claims.atRegister s .fare 4 ∧ (0x8009#16).getLsbD 15 = true ∧ (s.port .fare).busy = some ⟨.assign, ⟨0, 0, 0, 0⟩⟩ := by
  decide

theorem met_ClearCaptureAndClearCounters :
    let s := within State.reset .route (.writing 4)
    (asked State.reset .fare .clearCapture 0 0 0 0).inHand .fare .clearCapture = some ⟨0, 0, 0, 0⟩
      ∧ Claims.atRegister s .route 4 ∧ (s.port .route).busy = none
      ∧ (0x8050#16).getLsbD 15 = true ∧ (0x8050#16).toNat % 64 = 16 := by decide

/-- A transaction that has reached each register, one that has not, and a part that takes no words. -/
theorem met_RegisterWordsAreStoredOrIgnored :
    (∀ n ∈ [1#6, 2, 3, 5, 6, 7, 8, 9, 10, 11, 12, 14, 63, 0],
      Claims.atRegister (within State.reset .crew (.writing n)) .crew n ∧ ¬Claims.atRegister State.reset .crew n)
      ∧ ¬Claims.atRegister State.reset .crew 13 ∧ ¬Claims.takesWords State.held .crew
      ∧ (State.reset.port .crew).transaction = .idle ∧ (14#6).toNat = 14 ∧ (63#6).toNat = 63 ∧ 9 ≤ (9 : Word).toNat := by
  decide

theorem met_ATableReadShowsTheWord :
    let s := within (State.reset.modPort .fare fun x => { x with pointer := 23 }) .fare (.reading 13)
    let s' := within (State.reset.modPort .fare fun x => { x with pointer := 24 }) .fare (.reading 63)
    Claims.takesWords s .fare ∧ (s.port .fare).transaction = .reading 13
      ∧ (s.port .fare).pointer < Claims.tableLength (s.port .fare).table
      ∧ Claims.takesWords s' .fare ∧ (s'.port .fare).transaction = .reading 63
      ∧ ¬(s'.port .fare).pointer < Claims.tableLength (s'.port .fare).table := by decide

/-- Port `p` selects a table at a pointer and writes its words. -/
def selecting (s : State) (p : Port) (t : Table) (n : Nat) : State :=
  s.modPort p fun x => { x with table := t, pointer := n, transaction := .writing 13 }

theorem met_ARefusedTableWriteChangesNothing :
    Claims.atRegister (selecting State.reset .crew .capture 3) .crew 13 ∧ Claims.tableLength .capture ≤ 3
      ∧ 2 < Claims.tableLength .capture
      ∧ (selecting (withScript switchable fun u => { u with pendingSwitch := some ⟨6, 3000, 0⟩ }) .route .shadow 2).script.claimant
        = some .route
      ∧ 2 < Claims.tableLength .shadow ∧ (selecting switchable .route .shadow 1).script.pendingSwitch = none
      ∧ 256 < (257 : Word).toNat ∧ 77 < 84 ∧ 77 % 7 = 0 ∧ (0x1F41#16).toNat / 256 < 0x20 := by decide

/-- Accepted writes in each of the four tables that have writable words, at the last such word, and of each kind of
setting. -/
theorem met_AnAcceptedTableWriteIsStored :
    Claims.atRegister (selecting State.reset .crew .settings 20) .crew 13
      ∧ judgeWrite (selecting switchable .route .shadow 1027) .route .shadow 1027 9 = .ok
      ∧ judgeWrite (selecting State.reset .crew .channels 77) .crew .channels 77 0x4142#16 = .ok
      ∧ judgeWrite (selecting State.reset .crew .scenes 79) .crew .scenes 79 0xFFFF#16 = .ok
      ∧ (∀ x ∈ [(Port.route, 0, 256#16), (.route, 2, 120), (.crew, 3, 0), (.crew, 6, 64), (.crew, 5, 300), (.crew, 7, 8),
          (.crew, 8, 3), (.crew, 11, 0), (.crew, 12, 1000), (.crew, 13, 0xFFFF#16), (.crew, 15, 1023), (.crew, 16, 256),
          (.crew, 18, 0), (.route, 19, 60), (.crew, 20, 0), (.fare, 21, 1)],
        judgeWrite (selecting State.reset x.1 .settings x.2.1) x.1 .settings x.2.1 x.2.2 = .ok) := by decide

theorem met_RegisterWordsShowTheState :
    let s := within around .crew (.reading 16)
    let t := run (.positionRead .crew) s
    Claims.takesWords s .crew ∧ (s.port .crew).transaction = .reading 16 ∧ (s.port .crew).snapshot = none
      ∧ (t.port .crew).snapshot.isSome = true ∧ s.reader.divider ∈ [1, 2, 4, 8] := by decide

theorem met_TransactionsBeginAndEnd :
    Claims.takesWords State.reset .crew
      ∧ ((State.reset.modPort .crew fun x => { x with silent := true, timeout := 60 }).port .crew).silent = true := by decide

/-- The pins: held, with a read in flight and without, within a POLL and after it, and a port that floats, writes and
reads. -/
theorem met_OutputsAndPins :
    let s := polled Station.reset
    let s' := { s with now := 70 }
    State.held.resetHeld = true ∧ State.reset.resetHeld = false ∧ State.reset.reader.inFlight.isSome = true
      ∧ fetching.resetHeld = false ∧ fetching.reader.inFlight = none
      ∧ s.resetHeld = false ∧ (s.segment 2).poll = some ⟨vtab fun _ => 0, 70, 370⟩ ∧ s.now < 70 ∧ 70 ≤ s'.now
      ∧ (s.segment 3).poll = none ∧ (State.reset.port .fare).transaction = .idle
      ∧ Claims.takesWords (within s .fare (.reading 62)) .fare ∧ Claims.takesWords (within s .fare .unaddressed) .fare
      ∧ [0, 1, 2, 15, 20].map (Claims.wordsOn 62) = [62, 63, 0, 13, 13] := by decide

theorem met_SilenceEndsWhatThePortHolds :
    let s := page.modPort .crew fun x => { x with silenceTimer := some 5000000 }
    (State.reset.port .crew).silenceTimer = none ∧ (s.port .crew).silenceTimer = some 5000000 ∧ Safety.Queue s := by decide

theorem met_APortResetClearsThePort :
    let s := within page .crew (.writing 4)
    let held := page.modPort .fare fun x => { x with prstHeld := true }
    let under := State.held.modPort .fare fun x => { x with prstHeld := true }
    Claims.atRegister s .crew 4 ∧ (s.port .crew).busy = none ∧ (s.port .crew).prstHeld = false ∧ Safety.Queue s
      ∧ (0x8012#16).getLsbD 15 = true ∧ (0x8012#16).toNat % 64 = 18
      ∧ (held.port .fare).prstHeld = true ∧ held.resetHeld = false
      ∧ (under.port .fare).prstHeld = true ∧ under.resetHeld = true := by decide

/-! States other than reset that meet the invariants, and take a step. -/

theorem met_EveryStepKeepsTheRouteLawful :
    (Safety.Route around ∧ Safety.Pointer around ∧ Safety.Fix around) ∧ ∃ t, step around = .next t :=
  ⟨by decide, _, rfl⟩

theorem met_EveryStepKeepsTheQueueAndThePage :
    (Safety.Queue page ∧ Safety.Judged page ∧ Safety.Live page ∧ Safety.Ports page) ∧ ∃ t, step page = .next t :=
  ⟨by decide, _, rfl⟩

set_option maxRecDepth 20000 in
theorem met_EveryStepKeepsTheChannelsLawful :
    (Safety.Queue offered ∧ Safety.Stacks offered ∧ Safety.Disabled offered ∧ Safety.Offers offered ∧ Safety.Hold offered)
      ∧ ∃ t, step offered = .next t :=
  ⟨by decide, _, rfl⟩

set_option maxRecDepth 20000 in
/-- A page that plays, and a CUT entry below a PLAYING one. -/
theorem met_EveryStepKeepsPlayingAndSignals :
    let s := staged [entryOn2 21 .express (.clip 7) .playing, entryOn2 20 .standard (.clip 7) .cut]
      (inClip .express false [.announcement 20 .standard])
    (Safety.Queue page ∧ Safety.Stacks page ∧ Safety.Offers page ∧ Safety.Playing page ∧ Safety.Cut page
        ∧ Safety.Signals page ∧ ∃ t, step page = .next t)
      ∧ Safety.Queue s ∧ Safety.Stacks s ∧ Safety.Offers s ∧ Safety.Playing s ∧ Safety.Cut s ∧ Safety.Signals s
      ∧ ∃ t, step s = .next t := by
  exact ⟨⟨by decide, by decide, by decide, by decide, by decide, by decide, _, rfl⟩, by decide, by decide, by decide,
    by decide, by decide, by decide, _, rfl⟩

/-- One listener on channel 1: seat 10, PRESENT, plugged, language 1. -/
def listening : State :=
  let s := withSeat (withEnabled State.reset 0x017#12) 10 fun x =>
    { x with station := .present, plugged := true, language := some 1, assignedBy := .fare, lock := true }
  { (s.modStation 10 fun x => { x with state := .present }).modChannel 1 fun ch => { ch with listened := true } with
    roster := { s.roster with census := s.roster.census.set 1 1, listened := s.roster.listened.set 1 true } }

set_option maxRecDepth 20000 in
theorem met_EveryStepKeepsTheCensus :
    (Safety.Census listening ∧ Safety.Seats listening ∧ Safety.Mirror listening) ∧ ∃ t, step listening = .next t :=
  ⟨by decide, _, rfl⟩

set_option maxRecDepth 20000 in
theorem met_EveryStepKeepsReaderBusAndZonesLawful :
    (Safety.Reader audioInFlight ∧ Safety.Bus audioInFlight ∧ Safety.Levels audioInFlight ∧ Safety.FlashTimer audioInFlight)
      ∧ ∃ t, step audioInFlight = .next t :=
  ⟨by decide, _, rfl⟩

theorem met_EveryStepKeepsAHeldPartReset :
    let s : State := { State.held with pending := [.odometerPulse] }
    Safety.Held s ∧ s.resetHeld = true ∧ ∃ t, step s = .next t :=
  ⟨fun _ => rfl, rfl, _, rfl⟩

end Sys2Proof.Tests
end

