-- ==== Sys2Proof/Proofs/Script.lean ====
section
/-!
PROOFS. The shadow claim and the switch (02_cue_scripts_and_bank_switching.md): what the four requests answer, case by
case, and validation as a walk over the cues in index order.
-/
namespace Sys2Proof.Machine

/-! ## The four requests, taken from hand -/

theorem exec_claimShadow_of_inHand {s : State} {p : Port} {a : Args} (h : s.inHand p .claimShadow = some a) :
    exec (.claimShadow p) s = .next (claimShadowRequest p s a) :=
  congrArg Host.Outcome.next (State.taking_of_inHand _ h)

theorem exec_releaseShadow_of_inHand {s : State} {p : Port} {a : Args} (h : s.inHand p .releaseShadow = some a) :
    exec (.releaseShadow p) s = .next (releaseShadowRequest p s a) :=
  congrArg Host.Outcome.next (State.taking_of_inHand _ h)

theorem exec_switch_of_inHand {s : State} {p : Port} {a : Args} (h : s.inHand p .switch = some a) :
    exec (.switch p) s = .next (switchRequest p s a) :=
  congrArg Host.Outcome.next (State.taking_of_inHand _ h)

theorem exec_cancelSwitch_of_inHand {s : State} {p : Port} {a : Args} (h : s.inHand p .cancelSwitch = some a) :
    exec (.cancelSwitch p) s = .next (cancelSwitchRequest p s a) :=
  congrArg Host.Outcome.next (State.taking_of_inHand _ h)

/-! ## The claim (R22, R23) -/

section Claim
variable {s : State} {p : Port} (a : Args)

theorem claimShadowRequest_of_unclaimed (hc : s.script.claimant = none) :
    claimShadowRequest p s a = { s with script := { s.script with claimant := some p } }.answer p .ok 0 := by
  simp only [claimShadowRequest, hc]

theorem claimShadowRequest_of_claimed {q : Port} (hc : s.script.claimant = some q) :
    claimShadowRequest p s a = s.answer p .held (word (portNumber (some q))) := by
  simp only [claimShadowRequest, hc]

theorem releaseShadowRequest_of_claimant (hc : s.script.claimant = some p) :
    releaseShadowRequest p s a = { s with script := { s.script with claimant := none } }.answer p .ok 0 :=
  if_pos hc

theorem releaseShadowRequest_of_not_claimant (hc : s.script.claimant ≠ some p) :
    releaseShadowRequest p s a = s.answer p .notHolder (word (portNumber s.script.claimant)) :=
  if_neg hc

end Claim

/-! ## The cancelled switch (R30) -/

section Cancel
variable {s : State} {p : Port} (a : Args)

theorem cancelSwitchRequest_of_not_claimant (hc : s.script.claimant ≠ some p) :
    cancelSwitchRequest p s a = s.answer p .notHolder (word (portNumber s.script.claimant)) :=
  if_pos hc

theorem cancelSwitchRequest_of_none_pending (hc : s.script.claimant = some p) (hp : s.script.pendingSwitch = none) :
    cancelSwitchRequest p s a = s.answer p .noSuchEntry 0 := by
  simp [cancelSwitchRequest, hc, hp]

theorem cancelSwitchRequest_of_pending (hc : s.script.claimant = some p) (hp : s.script.pendingSwitch.isSome) :
    cancelSwitchRequest p s a = { s with script := { s.script with pendingSwitch := none } }.answer p .ok 0 := by
  obtain ⟨w, hw⟩ := Option.isSome_iff_exists.mp hp
  simp [cancelSwitchRequest, hc, hw]

end Cancel

/-- The detail that names a claimant, number by number (chapter 10). -/
theorem word_portNumber (q : Option Port) :
    word (portNumber q) = match q with
      | none => 0
      | some .route => 1
      | some .crew => 2
      | some .fare => 3 := by
  rcases q with _ | _ | _ | _ <;> rfl

/-- Settles O9: each clause is the request's own case. -/
theorem shadowClaimsAndTheCancelledSwitch : Obligations.ShadowClaimsAndTheCancelledSwitch := by
  intro s p a notHolder
  have refused : s.answer p .notHolder (word (portNumber s.script.claimant)) = notHolder :=
    congrArg (s.answer p .notHolder) (word_portNumber _)
  refine ⟨fun h => ?claim, fun h => ?release, fun h => ?cancel⟩
  case claim =>
    rw [exec_claimShadow_of_inHand h]
    refine ⟨fun hc => ?_, fun hc => ?_, fun hc => ?_, fun hc => ?_⟩
    · rw [claimShadowRequest_of_unclaimed a hc]
    all_goals rw [claimShadowRequest_of_claimed a hc]; rfl
  case release =>
    rw [exec_releaseShadow_of_inHand h]
    exact ⟨fun hc => by rw [releaseShadowRequest_of_claimant a hc],
      fun hc => by rw [releaseShadowRequest_of_not_claimant a hc, refused]⟩
  case cancel =>
    rw [exec_cancelSwitch_of_inHand h]
    exact ⟨fun hc => by rw [cancelSwitchRequest_of_not_claimant a hc, refused],
      fun hc hp => by rw [cancelSwitchRequest_of_none_pending a hc hp],
      fun hc hp => by rw [cancelSwitchRequest_of_pending a hc hp]⟩

/-! ## One cue's validation (R27) -/

theorem CueSlot.languages_eq_zero_iff (q : CueSlot) : q.languages = 0#12 ↔ field q.w1 0 12 = 0 := by
  unfold CueSlot.languages field
  exact BitVec.toNat_inj.symm

theorem CueSlot.cls_eq_standard_iff (q : CueSlot) : q.cls = .standard ↔ q.w1.getLsbD 12 = false := by
  unfold CueSlot.cls
  cases q.w1.getLsbD 12 <;> simp

/-- R27's tests as the model judges them are those of the claim, kind by kind. -/
theorem CueSlot.fails_eq_false_iff (q : CueSlot) (loopLength : Nat) (before : Option Nat) :
    q.fails loopLength before = false ↔ Claims.cuePasses loopLength before q := by
  unfold CueSlot.fails
  rw [Bool.or_eq_false_iff, Bool.or_eq_false_iff, and_assoc]
  refine and_congr ?position (and_congr ?order ?kind)
  case position => exact decide_eq_false_iff_not.trans not_le
  case order =>
    cases before with
    | none => simp
    | some x =>
      rw [decide_eq_false_iff_not, not_lt]
      simp [CueSlot.position]
  case kind =>
    have hlanguages := q.languages_eq_zero_iff
    have hcls := q.cls_eq_standard_iff
    have hgroup : ¬1024 ≤ q.group ↔ field q.w2 0 11 < 1024 := not_le
    have hexpiry : q.expiryDistance = 0 ↔ field q.w3 0 12 = 0 := Iff.rfl
    unfold CueSlot.kind
    -- COMMENTARY, QUIET and ANNOUNCE have tests of their own; SCENE and MARK have none, the other kinds are illegal.
    rcases field q.w1 13 3 with _ | _ | _ | _ | _ | k
    case zero => simp [hlanguages, ← hgroup]
    case succ.zero => simp [hlanguages]
    case succ.succ.zero =>
      simp [hlanguages, hcls, ← hgroup, ← hexpiry, CueSlot.safety, and_assoc]
    all_goals simp

/-! ## The walk over the cues (R27) -/

/-- The first cue that fails of those from index `i` on. -/
def Bank.firstFailingFrom (b : Bank) (i : Nat) : Option Nat :=
  firstFailing b.loopLength ((b.slots.toList.take b.cueCount).drop i) (Claims.before b i) i

theorem validate_of_bad_header {b : Bank} {position loopLength : Nat}
    (h : b.loopLength < 100 ∨ b.cueCount = 0 ∨ loopLength ≤ position) : validate b position loopLength = some 256 :=
  if_pos h

/-- A script whose header and switch point pass is judged by its cues from index 0 on. -/
theorem validate_of_good_header {b : Bank} {position loopLength : Nat} (hl : 100 ≤ b.loopLength) (hn : b.cueCount ≠ 0)
    (hp : position < loopLength) : validate b position loopLength = b.firstFailingFrom 0 :=
  if_neg (by omega)

theorem Bank.firstFailingFrom_of_end {b : Bank} {i : Nat} (h : 256 ≤ i ∨ b.cueCount ≤ i) :
    b.firstFailingFrom i = none := by
  have : (b.slots.toList.take b.cueCount).drop i = [] := by
    rw [List.drop_eq_nil_iff, List.length_take, Vector.length_toList]; omega
  rw [Bank.firstFailingFrom, this, firstFailing]

theorem Bank.cues_drop (b : Bank) {i : Nat} (hi : i < 256) (hn : i < b.cueCount) :
    (b.slots.toList.take b.cueCount).drop i = b.slots[i] :: (b.slots.toList.take b.cueCount).drop (i + 1) := by
  rw [List.drop_eq_getElem_cons (by simp; omega)]
  simp

theorem Bank.firstFailingFrom_of_not_passes {b : Bank} {i : Nat} (hi : i < 256) (hn : i < b.cueCount)
    (h : ¬Claims.cuePasses b.loopLength (Claims.before b i) b.slots[i]) : b.firstFailingFrom i = some i := by
  rw [← CueSlot.fails_eq_false_iff, Bool.not_eq_false] at h
  rw [Bank.firstFailingFrom, b.cues_drop hi hn, firstFailing, if_pos h]

theorem Bank.firstFailingFrom_of_passes {b : Bank} {i : Nat} (hi : i < 256) (hn : i < b.cueCount)
    (h : Claims.cuePasses b.loopLength (Claims.before b i) b.slots[i]) :
    b.firstFailingFrom i = b.firstFailingFrom (i + 1) := by
  have hb : Claims.before b (i + 1) = some b.slots[i].position := by
    simp [Claims.before, hi, CueSlot.position]
  rw [← CueSlot.fails_eq_false_iff] at h
  rw [Bank.firstFailingFrom, Bank.firstFailingFrom, b.cues_drop hi hn, firstFailing, h, hb]
  rfl

/-- While the cues before index `n` pass, the walk has come to index `n`. -/
theorem Bank.firstFailingFrom_zero_of_passes {b : Bank} {n : Nat} (hn : n ≤ 256) (hc : n ≤ b.cueCount)
    (h : ∀ (j : Nat) (_ : j < 256), j < n → Claims.cuePasses b.loopLength (Claims.before b j) b.slots[j]) :
    b.firstFailingFrom 0 = b.firstFailingFrom n := by
  induction n with
  | zero => rfl
  | succ k ih =>
    rw [ih (by omega) (by omega) fun j hj hjk => h j hj (by omega),
      Bank.firstFailingFrom_of_passes (by omega) (by omega) (h k (by omega) (by omega))]

/-- The detail of a script whose header passes is the index of its first failing cue. -/
theorem validate_of_failing_cue {b : Bank} {position loopLength i : Nat} (hl : 100 ≤ b.loopLength)
    (hn : b.cueCount ≠ 0) (hp : position < loopLength) (hi : i < 256) (hc : i < b.cueCount)
    (hfail : ¬Claims.cuePasses b.loopLength (Claims.before b i) b.slots[i])
    (hpass : ∀ (j : Nat) (_ : j < 256), j < i → Claims.cuePasses b.loopLength (Claims.before b j) b.slots[j]) :
    validate b position loopLength = some i := by
  rw [validate_of_good_header hl hn hp, Bank.firstFailingFrom_zero_of_passes hi.le hc.le hpass,
    Bank.firstFailingFrom_of_not_passes hi hc hfail]

theorem validate_of_scriptValid {b : Bank} {position loopLength : Nat}
    (h : Claims.scriptValid b position loopLength) : validate b position loopLength = none := by
  obtain ⟨hl, hn, hp, hpass⟩ := h
  rw [validate_of_good_header hl hn hp,
    Bank.firstFailingFrom_zero_of_passes (n := min 256 b.cueCount) (by omega) (by omega)
      fun j hj hjn => hpass j hj (by omega),
    Bank.firstFailingFrom_of_end (by omega)]

/-! ## The switch (R25, R28) -/

/-- The NEXT_LAP form of SWITCH stands for delta 1, position 0 (R25). -/
theorem switchArgs_eq (a : Args) :
    switchArgs a
      = (if a.a0.getLsbD 15 then 1 else field a.a0 0 4, if a.a0.getLsbD 15 then 0 else a.a1.toNat) := by
  unfold switchArgs
  split <;> rfl

theorem switchRecord_of_ahead {r : RouteCounter} {delta position : Nat} (h : delta ≠ 0 ∨ r.distance < position) :
    switchRecord r delta position = (⟨(r.lap + delta) % 16, position, 0⟩, false) :=
  if_neg (by omega)

/-- A point already passed on this lap is late and comes one lap on (R28). -/
theorem switchRecord_of_passed {r : RouteCounter} {position : Nat} (h : position ≤ r.distance) :
    switchRecord r 0 position = (⟨(r.lap + 1) % 16, position, 1⟩, true) := by
  simp [switchRecord, h]

section Switch
variable {s : State} {p : Port} {a : Args} {delta position : Nat}

theorem switchRequest_of_not_claimant (a : Args) (hc : s.script.claimant ≠ some p) :
    switchRequest p s a = s.answer p .notHolder (word (portNumber s.script.claimant)) :=
  if_pos hc

theorem switchRequest_of_pending (a : Args) (hc : s.script.claimant = some p) (hp : s.script.pendingSwitch.isSome) :
    switchRequest p s a = s.answer p .locked 0 := by
  simp [switchRequest, hc, hp]

theorem switchRequest_of_invalid {detail : Nat} (hc : s.script.claimant = some p)
    (hp : s.script.pendingSwitch = none) (ha : switchArgs a = (delta, position))
    (hv : validate s.script.shadowBank position s.route.loopLength = some detail) :
    switchRequest p s a = s.answer p .scriptInvalid (word detail) := by
  simp [switchRequest, hc, hp, ha, hv]

theorem switchRequest_of_valid {w : PendingSwitch} {late : Bool} (hc : s.script.claimant = some p)
    (hp : s.script.pendingSwitch = none) (ha : switchArgs a = (delta, position))
    (hv : validate s.script.shadowBank position s.route.loopLength = none)
    (hw : switchRecord s.route delta position = (w, late)) :
    switchRequest p s a
      = (let t : State := { s with script := { s.script with pendingSwitch := some w } }
        if late then t.raise .switchLate else t).answer p .ok 0 := by
  simp [switchRequest, hc, hp, ha, hv, hw]

end Switch

/-- Settles O10: R25's order of tests, with validation as the walk over the cues and the record of R28. -/
theorem switchIsValidatedAndRecorded : Obligations.SwitchIsValidatedAndRecorded := by
  intro s p a h delta position b
  have ha : switchArgs a = (delta, position) := switchArgs_eq a
  rw [exec_switch_of_inHand h]
  refine ⟨fun hc => ?notHolder, fun hc hp => ?locked, fun hc hp hbad => ?header,
    fun hc hp hl hn hq i hi hin hfail hpass => ?cue, fun hc hp hv => ⟨fun hd => ?ahead, fun hd hq => ?passed⟩⟩
  case notHolder =>
    rw [switchRequest_of_not_claimant a hc]
    exact congrArg (fun d => Host.Outcome.next (s.answer p .notHolder d)) (word_portNumber _)
  case locked =>
    rw [switchRequest_of_pending a hc hp]
  case header =>
    rw [switchRequest_of_invalid hc hp ha (validate_of_bad_header hbad)]
    rfl
  case cue =>
    rw [switchRequest_of_invalid hc hp ha (validate_of_failing_cue hl hn hq hi hin hfail hpass)]
  case ahead =>
    rw [switchRequest_of_valid hc hp ha (validate_of_scriptValid hv) (switchRecord_of_ahead hd)]
    rfl
  case passed =>
    rw [hd] at ha
    rw [switchRequest_of_valid hc hp ha (validate_of_scriptValid hv) (switchRecord_of_passed hq)]
    rfl

end Sys2Proof.Machine
end

/-!
PROOFS. Every step keeps the channels lawful (R66, R67, R69, R75, R78, R84, R87, R104): what a lawful channel record is,
which operations keep it so, and how offers follow the queue. The queue's work on a channel (`QueueKeeps`) and the
channel engine's own work (`Keeps`) are two relations between the state before and after, which compose; a block
boundary, a cue, a request and a disable are then chains of them.
-/
namespace Sys2Proof.Machine

/-! ## Lawful channel records (R66, R67, R69, R75, R84, R87) -/

/-- The playhead's content is that of an item of this play state and class (R69, R75). -/
def Playhead.Suits : Playhead → PlayState → ItemClass → Prop
  | .none, ps, cls => ps = .quiet ∧ cls = .none
  | .chain _, ps, cls => (ps = .commentary ∨ ps = .hold) ∧ cls = .commentary
  | .clip _, ps, cls => ps = .announce ∧ (cls = .standard ∨ cls = .express)
  | .mic _ _, ps, cls => ps = .live ∧ cls = .live

theorem itemsAgree_iff (ch : ChannelRec) :
    Safety.itemsAgree ch = true ↔ ch.playhead.Suits ch.playState ch.itemClass := by
  unfold Safety.itemsAgree
  cases ch.playhead <;> cases ch.playState <;> cases ch.itemClass <;> simp [Playhead.Suits]

/-- HOLD is a state of commentary (R84). -/
theorem Playhead.suits_hold_iff (ph : Playhead) (cls : ItemClass) : ph.Suits .hold cls ↔ ph.Suits .commentary cls := by
  cases ph <;> simp [Playhead.Suits]

/-- A commentary context has nothing below it exactly when every context above another is an announcement's. -/
theorem commentaryAtBottom_iff (l : List Context) :
    Safety.commentaryAtBottom l = true ↔ l.Pairwise fun k _ => k.isCommentary = false := by
  induction l with
  | nil => simp [Safety.commentaryAtBottom]
  | cons k rest ih =>
    cases rest with
    | nil => simp [Safety.commentaryAtBottom]
    | cons k' rest => simp_all [Safety.commentaryAtBottom]

/-- What a channel record keeps whatever its offer asks of it (R66, R67, R69, R75, R87). -/
structure ChannelRec.Sound (ch : ChannelRec) : Prop where
  depth : ch.stack.length ≤ 2
  bottom : ch.stack.Pairwise fun k _ => k.isCommentary = false
  agree : ch.playhead.Suits ch.playState ch.itemClass
  empty : ch.enabled = false →
    ch.playState = .quiet ∧ ch.stack = [] ∧ ch.action = .none ∧ ch.offer = none ∧ ch.fetch = .none
  unheld : ch.playState ≠ .hold → ch.hold = 0

/-- A sound record whose HOLD is the state of commentary that a STANDARD entry waits for (R84). -/
structure ChannelRec.Lawful (ch : ChannelRec) : Prop extends ch.Sound where
  offered : ch.playState = .hold → ch.offer.isSome
  unwaited : ch.playState = .commentary → ∀ o ∈ ch.offer, o.cls ≠ .standard

/-- The channel is not between two items: in QUIET, COMMENTARY and HOLD its resume stack is empty (R87). -/
def ChannelRec.Settled (ch : ChannelRec) : Prop := Safety.lowState ch.playState = true → ch.stack = []

namespace ChannelRec

variable {ch : ChannelRec}

/-- Only an enabled channel has a directory request. -/
theorem Sound.enabled_of_fetch (h : ch.Sound) (hf : ch.fetch ≠ .none) : ch.enabled = true := by
  by_contra hd
  obtain ⟨-, -, -, -, hnone⟩ := h.empty (Bool.eq_false_iff.mpr hd)
  exact hf hnone

/-- Only commentary is a chain. -/
theorem Sound.low_of_chain (h : ch.Sound) {k : Chain} (hk : ch.playhead = .chain k) :
    Safety.lowState ch.playState = true := by
  have hs := h.agree
  rw [hk] at hs
  obtain ⟨hp | hp, -⟩ := hs <;> rw [hp] <;> rfl

/-- Where a commentary context is the top one it is the only one. -/
theorem Sound.tail_of_commentary (h : ch.Sound) {k : CommentaryContext} {rest : List Context}
    (hk : ch.stack = .commentary k :: rest) : rest = [] := by
  have hb := h.bottom
  rw [hk, List.pairwise_cons] at hb
  exact List.eq_nil_iff_forall_not_mem.mpr fun x hx => by simpa [Context.isCommentary] using hb.1 x hx

/-! ### The offer taken (R78, R84) -/

/-- An enabled channel whose hold is settled by its offer is lawful (R84). -/
theorem Sound.settleHold (h : ch.Sound) (he : ch.enabled = true) (n : Nat) : (ch.settleHold n).Lawful := by
  have agree := h.agree
  have empty {P : Prop} (hd : ch.enabled = false) : P := absurd hd (by simp [he])
  unfold ChannelRec.settleHold
  split
  case h_1 id hp ho =>
    rw [hp] at agree
    exact
      { h with
        agree := (ch.playhead.suits_hold_iff _).mpr agree
        empty := empty
        unheld := fun hn => absurd rfl hn
        offered := fun _ => by simp [ho]
        unwaited := nofun }
  case h_2 hp ho =>
    rw [hp] at agree
    exact
      { h with
        agree := (ch.playhead.suits_hold_iff _).mp agree
        empty := empty
        unheld := fun _ => rfl
        offered := nofun
        unwaited := fun _ => by simp [ho] }
  case h_3 hcom hhold =>
    refine { h with offered := fun hp => ?_, unwaited := fun hp o ho hc => ?_ }
    · exact Option.isSome_iff_ne_none.mpr (hhold hp)
    · obtain ⟨id, cls⟩ := o
      exact hcom id hp (by simpa [← hc] using ho)

theorem Lawful.takeOffer (h : ch.Lawful) (he : ch.enabled = true) (n : Nat) (o : Option Offer) :
    (ch.takeOffer n o).Lawful :=
  Sound.settleHold (ch := { ch with offer := o }) { h with empty := fun hd => absurd hd (by simp [he]) } he n

theorem settleHold_low (ch : ChannelRec) (n : Nat) :
    (ch.settleHold n).stack = ch.stack
      ∧ Safety.lowState (ch.settleHold n).playState = Safety.lowState ch.playState := by
  unfold ChannelRec.settleHold; split <;> simp [Safety.lowState, *]

theorem takeOffer_quiet (n : Nat) (o : Option Offer) (h : ch.playState = .quiet) :
    (ch.takeOffer n o).playState = .quiet := by
  simp [ChannelRec.takeOffer, ChannelRec.settleHold, h]

/-! ### What the queue may do to a channel -/

/-- The queue's work has made `ch'` of `ch`: it keeps what is lawful, pushes no context and begins no item. -/
structure Heeds (ch ch' : ChannelRec) : Prop where
  enabled : ch'.enabled = ch.enabled
  stack : ch'.stack.Sublist ch.stack
  quiet : ch.playState = .quiet → ch'.playState = .quiet
  lawful : ch.Lawful → ch'.Lawful
  settled : ch.Settled → ch'.Settled

theorem Heeds.refl (ch : ChannelRec) : ch.Heeds ch :=
  ⟨rfl, List.Sublist.refl _, id, id, id⟩

theorem Heeds.trans {ch' ch'' : ChannelRec} (a : ch.Heeds ch') (b : ch'.Heeds ch'') : ch.Heeds ch'' :=
  ⟨b.enabled.trans a.enabled, b.stack.trans a.stack, b.quiet ∘ a.quiet, b.lawful ∘ a.lawful, b.settled ∘ a.settled⟩

theorem heeds_takeOffer (he : ch.enabled = true) (n : Nat) (o : Option Offer) : ch.Heeds (ch.takeOffer n o) := by
  obtain ⟨hs, hl⟩ := settleHold_low { ch with offer := o } n
  refine ⟨(takeOffer_kept ch n o).2.2.2, ?_, takeOffer_quiet n o, fun h => h.takeOffer he n o, fun h hlow => ?_⟩
  · rw [ChannelRec.takeOffer, hs]
  · rw [ChannelRec.takeOffer, hs]
    exact h (hl ▸ hlow)

theorem heeds_of_playhead {ph : Playhead}
    (hs : ch.playhead.Suits ch.playState ch.itemClass → ph.Suits ch.playState ch.itemClass) :
    ch.Heeds { ch with playhead := ph } :=
  ⟨rfl, List.Sublist.refl _, id, fun h => { h with agree := hs h.agree }, id⟩

theorem heeds_stopItem (ch : ChannelRec) : ch.Heeds ch.stopItem := by
  unfold ChannelRec.stopItem
  split
  case h_1 cl hp => exact heeds_of_playhead fun hs => by rwa [hp] at hs
  case h_2 i hp => exact heeds_of_playhead fun hs => by rwa [hp] at hs
  case h_3 => exact .refl ch
  case h_4 => exact .refl ch

/-- Contexts may leave a resume stack. -/
theorem heeds_of_sublist {l : List Context} (hl : l.Sublist ch.stack) : ch.Heeds { ch with stack := l } where
  enabled := rfl
  stack := hl
  quiet := id
  lawful h :=
    { h with
      depth := hl.length_le.trans h.depth
      bottom := h.bottom.sublist hl
      empty := fun hd => by
        obtain ⟨hq, hs, hrest⟩ := h.empty hd
        exact ⟨hq, List.sublist_nil.mp (hs ▸ hl), hrest⟩ }
  settled h hlow := List.sublist_nil.mp (h hlow ▸ hl)

theorem heeds_removeEntry (ch : ChannelRec) (id : Nat) : ch.Heeds (ch.removeEntry id) :=
  heeds_of_sublist List.filter_sublist

/-! ### Items and contexts -/

theorem Lawful.setFetch (h : ch.Lawful) (he : ch.enabled = true) (f : Fetch) :
    ({ ch with fetch := f } : ChannelRec).Lawful :=
  { h with empty := fun hd => absurd hd (by simp [he]) }

theorem Lawful.setAction (h : ch.Lawful) (he : ch.enabled = true) (a : Action) :
    ({ ch with action := a } : ChannelRec).Lawful :=
  { h with empty := fun hd => absurd hd (by simp [he]) }

theorem Lawful.endItem (h : ch.Lawful) : ch.endItem.Lawful where
  depth := h.depth
  bottom := h.bottom
  agree := ⟨rfl, rfl⟩
  empty hd := by
    obtain ⟨-, hs, ha, ho, -⟩ := h.empty hd
    exact ⟨rfl, hs, ha, ho, rfl⟩
  unheld _ := rfl
  offered := nofun
  unwaited := nofun

/-- An announcement or the microphone is put on a channel between items (R90). -/
theorem Lawful.putItem (h : ch.Lawful) (he : ch.enabled = true) (hq : ch.playState = .quiet) {ps : PlayState}
    {cls : ItemClass} {ph : Playhead} (hs : ph.Suits ps cls) (hlow : Safety.lowState ps = false) :
    ({ ch with playState := ps, itemClass := cls, playhead := ph } : ChannelRec).Lawful where
  depth := h.depth
  bottom := h.bottom
  agree := hs
  empty hd := absurd hd (by simp [he])
  unheld _ := h.unheld (by simp [hq])
  offered hp := by simp_all [Safety.lowState]
  unwaited hp := by simp_all [Safety.lowState]

theorem Lawful.goQuiet (h : ch.Lawful) (hq : ch.playState = .quiet) :
    ({ ch with playState := .quiet, itemClass := .none, playhead := .none, stack := [] } : ChannelRec).Lawful where
  depth := by simp
  bottom := List.Pairwise.nil
  agree := ⟨rfl, rfl⟩
  empty hd := by
    obtain ⟨-, -, hrest⟩ := h.empty hd
    exact ⟨rfl, rfl, hrest⟩
  unheld _ := h.unheld (by simp [hq])
  offered := nofun
  unwaited := nofun

/-- A context is pushed where there is room; a commentary context goes to an empty stack (R87). -/
theorem Lawful.push (h : ch.Lawful) (he : ch.enabled = true) {k : Context} (hroom : ch.stack.length < 2)
    (hk : k.isCommentary = true → ch.stack = []) : ({ ch with stack := k :: ch.stack } : ChannelRec).Lawful :=
  { h with
    depth := hroom
    bottom := List.pairwise_cons.mpr ⟨fun x hx => Bool.eq_false_iff.mpr fun hc => by simp [hk hc] at hx, h.bottom⟩
    empty := fun hd => absurd hd (by simp [he]) }

theorem length_of_placeCommentary {l l' : List Context} {k : CommentaryContext} (hp : placeCommentary l k = some l')
    (hl : l.length ≤ 2) : l'.length ≤ 2 := by
  unfold placeCommentary at hp
  split at hp
  · cases hp; simpa using hl
  · split at hp
    · cases hp; simp; omega
    · cases hp

theorem bottom_of_placeCommentary {l l' : List Context} {k : CommentaryContext} (hp : placeCommentary l k = some l')
    (hl : l.Pairwise fun x _ => x.isCommentary = false) : l'.Pairwise fun x _ => x.isCommentary = false := by
  have kept : ∀ x : Context, (if x.isCommentary then Context.commentary k else x).isCommentary = x.isCommentary := by
    intro x; cases x <;> rfl
  unfold placeCommentary at hp
  split at hp
  · cases hp
    rw [List.pairwise_map]
    simpa only [kept] using hl
  · next hnone =>
    split at hp
    · cases hp
      rw [List.pairwise_append]
      exact ⟨hl, List.pairwise_singleton _ _, fun x hx _ _ => by simp_all⟩
    · cases hp

/-- A COMMENTARY cue saves its context below an announcement (R82). -/
theorem Lawful.placeCommentary (h : ch.Lawful) (he : ch.enabled = true) {k : CommentaryContext} {l : List Context}
    (hp : placeCommentary ch.stack k = some l) : ({ ch with stack := l } : ChannelRec).Lawful :=
  { h with
    depth := length_of_placeCommentary hp h.depth
    bottom := bottom_of_placeCommentary hp h.bottom
    empty := fun hd => absurd hd (by simp [he]) }

theorem Lawful.takeQuiet (h : ch.Lawful) (he : ch.enabled = true) : ch.takeQuiet.Lawful := by
  have hr : ch.removeCommentary.Lawful := (heeds_of_sublist List.filter_sublist).lawful h
  unfold ChannelRec.takeQuiet
  dsimp only
  split
  · exact hr.setAction he _
  · exact hr.setAction he _
  · exact hr.setAction he _
  · exact hr
  · exact hr

theorem Settled.takeQuiet (h : ch.Settled) : ch.takeQuiet.Settled := by
  have hr : ch.removeCommentary.Settled := (heeds_of_sublist List.filter_sublist).settled h
  unfold ChannelRec.takeQuiet
  dsimp only
  split <;> exact hr

theorem takeQuiet_offer (ch : ChannelRec) : ch.takeQuiet.offer = ch.offer := by
  unfold ChannelRec.takeQuiet
  dsimp only
  split <;> rfl

/-- A disabled channel holds nothing (R66, R67). -/
theorem lawful_disable (ch : ChannelRec) : ch.disable.Lawful where
  depth := by simp [ChannelRec.disable]
  bottom := List.Pairwise.nil
  agree := ⟨rfl, rfl⟩
  empty _ := ⟨rfl, rfl, rfl, rfl, rfl⟩
  unheld _ := rfl
  offered := nofun
  unwaited := nofun

theorem settled_disable (ch : ChannelRec) : ch.disable.Settled := fun _ => rfl

end ChannelRec

/-! ## Relations between two states -/

/-- An entry plays the microphone exactly when its class is LIVE (R97, R114). -/
def Kinds (entries : List Entry) : Prop := ∀ e ∈ entries, (e.content = .mic ↔ e.cls = .live)

/-- The channels, the entries and the enabled set stand as before. -/
structure Untouched (s t : State) : Prop where
  channels : t.engine.channels = s.engine.channels
  entries : t.queue.entries = s.queue.entries
  set : t.roster.enabled = s.roster.enabled

theorem Untouched.refl (s : State) : Untouched s s := ⟨rfl, rfl, rfl⟩

theorem Untouched.trans {s t u : State} (a : Untouched s t) (b : Untouched t u) : Untouched s u :=
  ⟨b.channels.trans a.channels, b.entries.trans a.entries, b.set.trans a.set⟩

theorem Untouched.channel {s t : State} (h : Untouched s t) (c : ChannelNo) : t.channel c = s.channel c := by
  unfold State.channel; rw [h.channels]

/-- Of all the channels at most `c` has changed; the entries and the enabled set stand as before. -/
structure Only (c : ChannelNo) (s t : State) : Prop where
  others : ∀ d, d ≠ c → t.channel d = s.channel d
  entries : t.queue.entries = s.queue.entries
  set : t.roster.enabled = s.roster.enabled

namespace Only

variable {c : ChannelNo} {s t u : State}

theorem modChannel (s : State) (c : ChannelNo) (f : ChannelRec → ChannelRec) : Only c s (s.modChannel c f) :=
  ⟨fun _ => State.modChannel_channel_ne _ _ _ _, rfl, rfl⟩

theorem of_untouched (h : Untouched s t) : Only c s t := ⟨fun d _ => h.channel d, h.entries, h.set⟩

theorem trans (a : Only c s t) (b : Only c t u) : Only c s u :=
  ⟨fun d hd => (b.others d hd).trans (a.others d hd), b.entries.trans a.entries, b.set.trans a.set⟩

/-- What the one channel's change keeps, every channel keeps. -/
theorem forall_channel (h : Only c s t) {R : ChannelRec → ChannelRec → Prop} (hrefl : ∀ ch, R ch ch)
    (hc : R (s.channel c) (t.channel c)) (d : ChannelNo) : R (s.channel d) (t.channel d) := by
  by_cases hd : d = c
  · exact hd ▸ hc
  · rw [h.others d hd]; exact hrefl _

end Only

/-- The same channels are enabled, the enabled set stands, and every offer stands as it did over the same entries or has
been named anew (R78, R104). -/
structure Named (s t : State) : Prop where
  enabled : ∀ c, (t.channel c).enabled = (s.channel c).enabled
  set : t.roster.enabled = s.roster.enabled
  kinds : Kinds s.queue.entries → Kinds t.queue.entries
  offers : Safety.Offers t
    ∨ t.queue.entries = s.queue.entries ∧ ∀ c, (t.channel c).offer = (s.channel c).offer

namespace Named

theorem refl (s : State) : Named s s := ⟨fun _ => rfl, rfl, id, .inr ⟨rfl, fun _ => rfl⟩⟩

/-- Offers that are right stay right. -/
theorem keeps_offers {s t : State} (h : Named s t) (ho : Safety.Offers s) : Safety.Offers t := by
  rcases h.offers with h' | ⟨hq, hc⟩
  · exact h'
  · intro c he
    rw [hc, hq]
    exact ho c (h.enabled c ▸ he)

theorem trans {s t u : State} (a : Named s t) (b : Named t u) : Named s u where
  enabled c := (b.enabled c).trans (a.enabled c)
  set := b.set.trans a.set
  kinds := b.kinds ∘ a.kinds
  offers := by
    rcases a.offers with ha | ⟨haq, hac⟩
    · exact .inl (b.keeps_offers ha)
    · exact b.offers.imp id fun ⟨hbq, hbc⟩ => ⟨hbq.trans haq, fun c => (hbc c).trans (hac c)⟩

theorem of_untouched {s t : State} (h : Untouched s t) : Named s t where
  enabled c := by rw [h.channel]
  set := h.set
  kinds hk := h.entries ▸ hk
  offers := .inr ⟨h.entries, fun c => by rw [h.channel]⟩

/-- One channel's record changes and its offer stands. -/
theorem of_only {c : ChannelNo} {s t : State} (h : Only c s t) (he : (t.channel c).enabled = (s.channel c).enabled)
    (ho : (t.channel c).offer = (s.channel c).offer) : Named s t where
  enabled := h.forall_channel (R := fun ch ch' => ch'.enabled = ch.enabled) (fun _ => rfl) he
  set := h.set
  kinds hk := h.entries ▸ hk
  offers := .inr ⟨h.entries, h.forall_channel (R := fun ch ch' => ch'.offer = ch.offer) (fun _ => rfl) ho⟩

end Named

/-- The queue has worked from `s` to `t`: no channel has begun an item or gained a context. -/
structure QueueKeeps (s t : State) : Prop extends Named s t where
  heeds : ∀ c, (s.channel c).Heeds (t.channel c)

namespace QueueKeeps

theorem refl (s : State) : QueueKeeps s s := ⟨Named.refl s, fun _ => .refl _⟩

theorem trans {s t u : State} (a : QueueKeeps s t) (b : QueueKeeps t u) : QueueKeeps s u :=
  ⟨a.toNamed.trans b.toNamed, fun c => (a.heeds c).trans (b.heeds c)⟩

theorem of_untouched {s t : State} (h : Untouched s t) : QueueKeeps s t :=
  ⟨.of_untouched h, fun c => by rw [h.channel]; exact .refl _⟩

theorem foldl {α : Type} (f : State → α → State) (h : ∀ s a, QueueKeeps s (f s a)) (l : List α) (s : State) :
    QueueKeeps s (l.foldl f s) := by
  induction l generalizing s with
  | nil => exact refl s
  | cons a l ih => exact (h s a).trans (ih (f s a))

theorem modChannel (s : State) (c : ChannelNo) (f : ChannelRec → ChannelRec)
    (ho : (f (s.channel c)).offer = (s.channel c).offer) (h : (s.channel c).Heeds (f (s.channel c))) :
    QueueKeeps s (s.modChannel c f) := by
  rw [← s.modChannel_channel_self c f] at ho h
  exact ⟨.of_only (.modChannel s c f) h.enabled ho,
    (Only.modChannel s c f).forall_channel ChannelRec.Heeds.refl h⟩

end QueueKeeps

/-- The part has worked from `s` to `t`: lawful channels stay lawful, and no channel but `x` has been left between two
items. -/
structure Keeps (x : Option ChannelNo) (s t : State) : Prop extends Named s t where
  lawful : ∀ c, (s.channel c).Lawful → (t.channel c).Lawful
  settled : ∀ c, x ≠ some c → (s.channel c).Settled → (t.channel c).Settled

theorem QueueKeeps.keeps {s t : State} (h : QueueKeeps s t) (x : Option ChannelNo) : Keeps x s t :=
  ⟨h.toNamed, fun c => (h.heeds c).lawful, fun c _ => (h.heeds c).settled⟩

/-- Every channel is lawful and settled. -/
structure Steady (s : State) : Prop where
  lawful : ∀ c, (s.channel c).Lawful
  settled : ∀ c, (s.channel c).Settled

/-- The channels are steady, and every entry plays what its class says. -/
structure Orderly (s : State) : Prop extends Steady s where
  kinds : Kinds s.queue.entries

namespace Keeps

variable {x : Option ChannelNo}

theorem refl (s : State) : Keeps x s s := (QueueKeeps.refl s).keeps x

theorem trans {s t u : State} (a : Keeps x s t) (b : Keeps x t u) : Keeps x s u :=
  ⟨a.toNamed.trans b.toNamed, fun c => b.lawful c ∘ a.lawful c, fun c hc => b.settled c hc ∘ a.settled c hc⟩

theorem of_untouched {s t : State} (h : Untouched s t) : Keeps x s t := (QueueKeeps.of_untouched h).keeps x

/-- Work that leaves no channel between items leaves none but `c`. -/
theorem weaken {s t : State} (h : Keeps none s t) : Keeps x s t :=
  ⟨h.toNamed, h.lawful, fun c _ => h.settled c nofun⟩

/-- Work that leaves at most `c` between items leaves none when it leaves `c` settled. -/
theorem strengthen {s t : State} {c : ChannelNo} (h : Keeps (some c) s t) (hc : (t.channel c).Settled) :
    Keeps none s t := by
  refine ⟨h.toNamed, h.lawful, fun d _ hd => ?_⟩
  by_cases hdc : d = c
  · rwa [hdc]
  · exact h.settled d (by simpa using Ne.symm hdc) hd

theorem steady {s t : State} (h : Keeps none s t) (hs : Steady s) : Steady t :=
  ⟨fun c => h.lawful c (hs.lawful c), fun c => h.settled c nofun (hs.settled c)⟩

theorem orderly {s t : State} (h : Keeps none s t) (hs : Orderly s) : Orderly t :=
  ⟨h.steady hs.toSteady, h.kinds hs.kinds⟩

/-- A fold of steps that each keep an orderly state. -/
theorem foldl {α : Type} (f : State → α → State) (h : ∀ s a, Orderly s → Keeps none s (f s a)) (l : List α) (s : State)
    (hs : Orderly s) : Keeps none s (l.foldl f s) := by
  induction l generalizing s with
  | nil => exact refl s
  | cons a l ih => exact (h s a hs).trans (ih (f s a) ((h s a hs).orderly hs))

/-- What it takes of the one channel that has changed. -/
theorem of_only {c : ChannelNo} {s t : State} (h : Only c s t) (he : (t.channel c).enabled = (s.channel c).enabled)
    (ho : (t.channel c).offer = (s.channel c).offer) (hl : (s.channel c).Lawful → (t.channel c).Lawful)
    (hs : x ≠ some c → (s.channel c).Settled → (t.channel c).Settled) : Keeps x s t where
  toNamed := .of_only h he ho
  lawful := h.forall_channel (R := fun ch ch' => ch.Lawful → ch'.Lawful) (fun _ => id) hl
  settled d hx := by
    by_cases hd : d = c
    · subst hd; exact hs hx
    · rw [h.others d hd]; exact id

theorem modChannel (s : State) (c : ChannelNo) (f : ChannelRec → ChannelRec)
    (he : (f (s.channel c)).enabled = (s.channel c).enabled) (ho : (f (s.channel c)).offer = (s.channel c).offer)
    (hl : (s.channel c).Lawful → (f (s.channel c)).Lawful)
    (hs : x ≠ some c → (s.channel c).Settled → (f (s.channel c)).Settled) : Keeps x s (s.modChannel c f) := by
  rw [← s.modChannel_channel_self c f] at he ho hl hs
  exact .of_only (.modChannel s c f) he ho hl hs

end Keeps

/-! ## What touches neither channels nor entries -/

theorem State.reach_untouched (s : State) (n : Nat) : Untouched s (s.reach n) := ⟨rfl, rfl, rfl⟩
theorem State.modPort_untouched (s : State) (p : Port) (f : PortState → PortState) : Untouched s (s.modPort p f) :=
  ⟨rfl, rfl, rfl⟩
theorem State.answer_untouched (s : State) (p : Port) (r : ResultCode) (d : Word) : Untouched s (s.answer p r d) :=
  ⟨rfl, rfl, rfl⟩
theorem State.raise_untouched (s : State) (n : Notice) : Untouched s (s.raise n) := ⟨rfl, rfl, rfl⟩
theorem State.raiseOthers_untouched (s : State) (p : Port) (n : Notice) : Untouched s (s.raiseOthers p n) := by
  refine ⟨?_, ?_, ?_⟩ <;> simp
theorem State.chainError_untouched (s : State) : Untouched s s.chainError := ⟨rfl, rfl, rfl⟩
theorem State.cueDropped_untouched (s : State) : Untouched s s.cueDropped := ⟨rfl, rfl, rfl⟩
theorem State.contextLost_untouched (s : State) : Untouched s s.contextLost := ⟨rfl, rfl, rfl⟩
theorem State.countUnderrun_untouched (s : State) (c : ChannelNo) : Untouched s (s.countUnderrun c) := ⟨rfl, rfl, rfl⟩
theorem State.countUnheard_untouched (s : State) : Untouched s s.countUnheard := ⟨rfl, rfl, rfl⟩
theorem State.countOutcome_untouched (s : State) (o : EndOutcome) : Untouched s (s.countOutcome o) := by
  cases o <;> exact ⟨rfl, rfl, rfl⟩
theorem State.judgeSignals_untouched (s : State) : Untouched s s.judgeSignals := ⟨rfl, rfl, rfl⟩
theorem State.chainErrorIf_untouched (s : State) (b : Bool) : Untouched s (s.chainErrorIf b) := by
  cases b
  · exact .refl s
  · exact s.chainError_untouched

/-! ## The queue's work (R101, R104, R120) -/

/-- Offers renamed are right (R104). -/
theorem State.renameOffers_offers (s : State) : Safety.Offers s.renameOffers := by
  intro c he
  rw [State.renameOffers_channel] at he ⊢
  split at he
  · next h => rw [if_pos h]; simp
  · next h => exact absurd he h

/-- Whatever has become of the entries, a renaming sets the offers right. -/
theorem QueueKeeps.of_renamed {s t : State} (hch : t.engine.channels = s.engine.channels)
    (hset : t.roster.enabled = s.roster.enabled) (hk : Kinds s.queue.entries → Kinds t.queue.entries) :
    QueueKeeps s t.renameOffers := by
  have hc : ∀ c, t.channel c = s.channel c := fun c => by unfold State.channel; rw [hch]
  have heeds : ∀ c, (s.channel c).Heeds (t.renameOffers.channel c) := by
    intro c
    rw [State.renameOffers_channel, hc]
    split
    · next he => exact ChannelRec.heeds_takeOffer he _ _
    · exact .refl _
  exact ⟨⟨fun c => (heeds c).enabled, hset, hk, .inl t.renameOffers_offers⟩, heeds⟩

theorem Kinds.filter {entries : List Entry} (h : Kinds entries) (p : Entry → Bool) : Kinds (entries.filter p) :=
  fun e he => h e (List.mem_of_mem_filter he)

theorem Kinds.map {entries : List Entry} (h : Kinds entries) {f : Entry → Entry}
    (hf : ∀ e, (f e).content = e.content ∧ (f e).cls = e.cls) : Kinds (entries.map f) := by
  intro e he
  obtain ⟨e', he', rfl⟩ := List.mem_map.mp he
  rw [(hf e').1, (hf e').2]
  exact h e' he'

theorem Kinds.insert {entries : List Entry} (h : Kinds entries) {e : Entry} (he : e.content = .mic ↔ e.cls = .live) :
    Kinds (insertEntry e entries) := by
  intro e' he'
  rcases (mem_insertEntry e e' entries).mp he' with rfl | hm
  · exact he
  · exact h e' hm

/-- An entry changes in neither content nor class. -/
theorem State.modEntry_kinds (s : State) (id : Nat) {f : Entry → Entry}
    (hf : ∀ e, (f e).content = e.content ∧ (f e).cls = e.cls) (h : Kinds s.queue.entries) :
    Kinds (s.modEntry id f).queue.entries :=
  Kinds.map h fun e => by split <;> simp [hf]

theorem State.endEntry_keeps (s : State) (e : Entry) (o : EndOutcome) : QueueKeeps s (s.endEntry e o) := by
  unfold State.endEntry
  dsimp only
  generalize ht : ({ s with queue := _ } : State) = t
  have hcount := (t.raise_untouched .annEnd).trans (State.countOutcome_untouched _ o)
  subst ht
  refine .of_renamed hcount.channels hcount.set fun hk => ?_
  rw [hcount.entries]
  exact hk.filter _

theorem State.judgeEnd_keeps (s : State) (id : Nat) : QueueKeeps s (s.judgeEnd id) := by
  unfold State.judgeEnd
  split
  · split
    · exact .refl s
    · exact s.endEntry_keeps _ _
  · exact .refl s

/-- What follows a change of the entries over the channels of `s` (R101). -/
theorem QueueKeeps.of_changed {s t : State} (id : Nat) (hch : t.engine.channels = s.engine.channels)
    (hset : t.roster.enabled = s.roster.enabled) (hk : Kinds s.queue.entries → Kinds t.queue.entries) :
    QueueKeeps s (t.afterChange id) :=
  ((QueueKeeps.of_renamed hch hset hk).trans (State.judgeEnd_keeps _ id)).trans
    (.of_untouched (State.judgeSignals_untouched _))

theorem State.afterChange_keeps (s : State) (id : Nat) : QueueKeeps s (s.afterChange id) :=
  .of_changed id rfl rfl fun h => h

theorem State.afterChange_offers (s : State) (id : Nat) : Safety.Offers (s.afterChange id) :=
  ((State.judgeEnd_keeps _ id).trans (.of_untouched (State.judgeSignals_untouched _))).keeps_offers
    s.renameOffers_offers

theorem State.changeObligation_keeps (s : State) (id : Nat) (c : ChannelNo) (f : Obligation → Obligation) :
    QueueKeeps s (s.changeObligation id c f) :=
  .of_changed id rfl rfl (s.modEntry_kinds id fun _ => ⟨rfl, rfl⟩)

theorem State.stopOn_keeps (s : State) (c : ChannelNo) : QueueKeeps s (s.stopOn c) := by
  refine .modChannel s c _ ?_ (ChannelRec.heeds_stopItem _)
  unfold ChannelRec.stopItem; split <;> rfl

theorem State.removeEntry_keeps (s : State) (c : ChannelNo) (id : Nat) :
    QueueKeeps s (s.modChannel c fun ch => ch.removeEntry id) :=
  .modChannel s c _ rfl (ChannelRec.heeds_removeEntry _ id)

theorem State.reportStart_keeps (s : State) (id : Nat) (c : ChannelNo) (l : Bool) :
    QueueKeeps s (s.reportStart id c l) := by
  unfold State.reportStart
  split
  · split
    · dsimp only
      split
      · exact s.changeObligation_keeps _ _ _
      · exact (QueueKeeps.of_untouched (s.raise_untouched _)).trans (State.changeObligation_keeps _ _ _ _)
    · exact s.stopOn_keeps c
  · exact s.stopOn_keeps c

theorem State.reportRestart_keeps (s : State) (id : Nat) (c : ChannelNo) : QueueKeeps s (s.reportRestart id c) := by
  unfold State.reportRestart
  split
  · exact s.changeObligation_keeps _ _ _
  · exact s.stopOn_keeps c

theorem State.reportCut_keeps (s : State) (id : Nat) (c : ChannelNo) : QueueKeeps s (s.reportCut id c) := by
  unfold State.reportCut
  split
  · split
    · exact s.changeObligation_keeps _ _ _
    · exact .refl s
  · exact s.removeEntry_keeps c id

theorem State.reportEnd_keeps (s : State) (id : Nat) (c : ChannelNo) : QueueKeeps s (s.reportEnd id c) := by
  unfold State.reportEnd
  split
  · exact s.changeObligation_keeps _ _ _
  · exact .refl s

theorem State.reportUnheard_keeps (s : State) (id : Nat) (c : ChannelNo) : QueueKeeps s (s.reportUnheard id c) := by
  unfold State.reportUnheard
  split
  · exact s.changeObligation_keeps _ _ _
  · exact .refl s

theorem State.reportDiscarded_keeps (s : State) (id : Nat) (c : ChannelNo) : QueueKeeps s (s.reportDiscarded id c) := by
  unfold State.reportDiscarded
  split
  · exact s.changeObligation_keeps _ _ _
  · exact .refl s

theorem State.reportDisabled_keeps (s : State) (id : Nat) (c : ChannelNo) : QueueKeeps s (s.reportDisabled id c) := by
  unfold State.reportDisabled
  split
  · exact s.changeObligation_keeps _ _ _
  · exact .refl s

theorem State.addEntry_keeps (s : State) {e : Entry} (he : e.content = .mic ↔ e.cls = .live) :
    QueueKeeps s (s.addEntry e) :=
  .of_renamed rfl rfl fun h => h.insert he

theorem State.launchEntry_keeps (s : State) (id : Nat) : QueueKeeps s (s.launchEntry id) :=
  .of_renamed rfl rfl (s.modEntry_kinds id fun _ => ⟨rfl, rfl⟩)

theorem State.takeExpiry_keeps (s : State) (id : Nat) : QueueKeeps s (s.takeExpiry id) :=
  .of_changed id rfl rfl (s.modEntry_kinds id fun _ => ⟨rfl, rfl⟩)

theorem State.judgeTrip_keeps (s : State) : QueueKeeps s s.judgeTrip :=
  (QueueKeeps.foldl _ (fun s (e : Entry) => s.launchEntry_keeps e.id) _ _).trans
    (QueueKeeps.foldl _ (fun s (e : Entry) => s.takeExpiry_keeps e.id) _ _)

theorem State.stopPlaying_keeps (s : State) (e : Entry) : QueueKeeps s (s.stopPlaying e) :=
  QueueKeeps.foldl _ (fun s c => by
    split
    · exact s.stopOn_keeps c
    · exact .refl s) _ s

theorem State.removeContexts_keeps (s : State) (id : Nat) : QueueKeeps s (s.removeContexts id) :=
  QueueKeeps.foldl _ (fun s c => s.removeEntry_keeps c id) _ s

theorem State.cancelEntry_keeps (s : State) (e : Entry) : QueueKeeps s (s.cancelEntry e) :=
  (((s.stopPlaying_keeps e).trans (State.removeContexts_keeps _ _)).trans (State.endEntry_keeps _ _ _)).trans
    (.of_untouched (State.judgeSignals_untouched _))

theorem State.endLive_keeps (s : State) : QueueKeeps s s.endLive := by
  unfold State.endLive
  split
  · exact .refl s
  · exact ((s.stopPlaying_keeps _).trans (State.endEntry_keeps _ _ _)).trans
      (.of_untouched (State.judgeSignals_untouched _))

/-! ## Chains (R51 to R53) -/

/-- Of all the channels only `c` has changed, and only by a CHAIN playhead and a directory request. -/
structure Rechained (c : ChannelNo) (s t : State) : Prop extends Only c s t where
  channel : ∃ k f, t.channel c = { s.channel c with playhead := .chain k, fetch := f }

namespace Rechained

variable {c : ChannelNo} {s t u : State}

theorem setPlayhead (s : State) (c : ChannelNo) (k : Chain) : Rechained c s (s.setPlayhead c (.chain k)) :=
  ⟨.modChannel s c _, k, _, State.modChannel_channel_self _ _ _⟩

theorem requestFetch (h : Rechained c s t) (g : Nat) : Rechained c s (t.requestFetch c g) := by
  obtain ⟨ho, k, f, hk⟩ := h
  refine ⟨ho.trans (.modChannel t c _), k, .pending g, ?_⟩
  rw [State.requestFetch, State.modChannel_channel_self, hk]

theorem after (h : Rechained c t u) (hs : Untouched s t) : Rechained c s u := by
  obtain ⟨ho, hch⟩ := h
  exact ⟨(Only.of_untouched hs).trans ho, hs.channel c ▸ hch⟩

/-- A channel in a chain stays in one. -/
theorem keeps {x : Option ChannelNo} (h : Rechained c s t) (hc : (s.channel c).enabled = true)
    {k₀ : Chain} (hk₀ : (s.channel c).playhead = .chain k₀) : Keeps x s t := by
  obtain ⟨ho, k, f, hk⟩ := h
  refine .of_only ho (by rw [hk]) (by rw [hk]) (fun hl => ?_) fun _ hs => by rw [hk]; exact hs
  rw [hk]
  exact ((ChannelRec.heeds_of_playhead (ph := .chain k) fun hs => by rwa [hk₀] at hs).lawful hl).setFetch hc f

end Rechained

theorem State.enterGroup_rechained (s : State) (c : ChannelNo) (k : Chain) (e : LangEntry) (u : Bool) (next : Word) :
    Rechained c s (s.enterGroup c k e u next) := by
  unfold State.enterGroup
  split
  · exact (Rechained.setPlayhead _ c _).after (s.chainErrorIf_untouched _)
  · exact (Rechained.setPlayhead s c _).requestFetch _

theorem State.moveOn_rechained (s : State) (c : ChannelNo) (k : Chain) (next : Word) :
    Rechained c s (s.moveOn c k next) := by
  unfold State.moveOn
  split
  · exact (Rechained.setPlayhead _ c _).after (s.chainErrorIf_untouched _)
  · exact (Rechained.setPlayhead s c _).requestFetch _

theorem State.passOver_rechained (s : State) (c : ChannelNo) (k : Chain) (n : Nat) (next : Word) :
    Rechained c s (s.passOver c k n next) := by
  unfold State.passOver
  split
  · exact (Rechained.setPlayhead _ c _).after (s.chainErrorIf_untouched _)
  · exact (Rechained.setPlayhead s c _).requestFetch _

theorem State.beginStep_rechained (s : State) (c : ChannelNo) (g offset walked start : Nat) :
    Rechained c s (s.beginStep c g offset walked start) := by
  unfold State.beginStep
  dsimp only
  split
  · exact (Rechained.setPlayhead _ c _).after s.chainError_untouched
  · split
    · exact (Rechained.setPlayhead _ c _).after s.chainError_untouched
    · exact (Rechained.setPlayhead s c _).requestFetch _

/-- The record with a commentary item just taken up, before the hold is settled. -/
def ChannelRec.withChain (ch : ChannelRec) (k : Chain) (f : Fetch) : ChannelRec :=
  { ch.endItem with playState := .commentary, itemClass := .commentary, playhead := .chain k, fetch := f }

theorem ChannelRec.withChain_sound {ch : ChannelRec} (he : ch.enabled = true) (hs : ch.stack = []) (k : Chain)
    (f : Fetch) : (ch.withChain k f).Sound where
  depth := by simp [ChannelRec.withChain, ChannelRec.endItem, ChannelRec.returnBuffers, hs]
  bottom := by simp [ChannelRec.withChain, ChannelRec.endItem, ChannelRec.returnBuffers, hs]
  agree := ⟨.inl rfl, rfl⟩
  empty hd := absurd hd (by simp [ChannelRec.withChain, ChannelRec.endItem, ChannelRec.returnBuffers, he])
  unheld _ := rfl

theorem State.takeUpChain_channel (s : State) (c : ChannelNo) (g offset walked start : Nat) :
    Only c s (s.takeUpChain c g offset walked start)
      ∧ ∃ k f n, (s.takeUpChain c g offset walked start).channel c = ((s.channel c).withChain k f).settleHold n := by
  obtain ⟨ho, k, f, hk⟩ := State.beginStep_rechained
    (s.modChannel c fun ch => { ch.endItem with playState := .commentary, itemClass := .commentary })
    c g offset walked start
  rw [State.modChannel_channel_self] at hk
  refine ⟨((Only.modChannel s c _).trans ho).trans (.modChannel _ c _), k, f, s.engine.holdAdvance, ?_⟩
  unfold State.takeUpChain
  dsimp only
  rw [State.modChannel_channel_self, hk]
  rfl

/-- A commentary item is taken up by a channel without contexts, which is settled with it (R80, R91). -/
theorem State.takeUpChain_keeps {s : State} {c : ChannelNo} (g offset walked start : Nat)
    (he : (s.channel c).enabled = true) (hs : (s.channel c).stack = []) :
    Keeps none s (s.takeUpChain c g offset walked start) := by
  obtain ⟨ho, k, f, n, hk⟩ := s.takeUpChain_channel c g offset walked start
  refine .of_only ho ?_ ?_ (fun _ => ?_) fun _ _ _ => ?_
  · rw [hk, (ChannelRec.settleHold_kept _ n).2.2.2]; rfl
  · rw [hk, ChannelRec.settleHold_offer]; rfl
  · rw [hk]; exact (ChannelRec.withChain_sound he hs k f).settleHold he n
  · rw [hk, (ChannelRec.settleHold_low _ n).1]; exact hs

/-! ## Group records (R51 to R54) -/

section Records
variable {x : Option ChannelNo} {s : State} {c : ChannelNo}

theorem State.setPlayhead_keeps {ph : Playhead}
    (h : ∀ ps cls, (s.channel c).playhead.Suits ps cls → ph.Suits ps cls) : Keeps x s (s.setPlayhead c ph) :=
  (QueueKeeps.modChannel s c _ rfl (ChannelRec.heeds_of_playhead (h _ _))).keeps x

theorem State.setClip_keeps {cl : Clip} (h : (s.channel c).playhead = .clip cl) (cl' : Clip) :
    Keeps x s (s.setPlayhead c (.clip cl')) :=
  State.setPlayhead_keeps fun _ _ hs => by rwa [h] at hs

theorem State.setFetch_keeps (he : (s.channel c).enabled = true) (f : Fetch) :
    Keeps x s (s.modChannel c fun ch => { ch with fetch := f }) :=
  .modChannel s c _ rfl rfl (fun hl => hl.setFetch he f) fun _ => id

theorem State.chainRecord_keeps {k : Chain} (he : (s.channel c).enabled = true)
    (hk : (s.channel c).playhead = .chain k) (r : GroupRecord) : Keeps x s (s.chainRecord c k r) := by
  unfold State.chainRecord
  dsimp only
  have hu := s.chainErrorIf_untouched (judgeEntry r s.reader.storeSize = .invalid)
  generalize s.chainErrorIf (judgeEntry r s.reader.storeSize = .invalid) = t at hu ⊢
  refine (Keeps.of_untouched hu).trans ?_
  rw [← hu.channel] at he hk
  have rechained : ∀ {u}, Rechained c t u → Keeps x t u := fun h => h.keeps he hk
  split
  · split
    · exact rechained (State.enterGroup_rechained _ _ _ _ _ _)
    · exact rechained (State.moveOn_rechained _ _ _ _)
  · split
    · exact rechained (State.enterGroup_rechained _ _ _ _ _ _)
    · exact rechained (State.moveOn_rechained _ _ _ _)
  · exact rechained (Rechained.setPlayhead _ _ _)
  · exact rechained (State.passOver_rechained _ _ _ _ _)
  · exact rechained (State.passOver_rechained _ _ _ _ _)
  · exact rechained (State.passOver_rechained _ _ _ _ _)
  · exact .refl t
  · exact .refl t
  · exact .refl t

theorem State.endClipNow_keeps {cl : Clip} (h : (s.channel c).playhead = .clip cl) : Keeps x s (s.endClipNow c cl) := by
  unfold State.endClipNow
  dsimp only
  refine (State.setClip_keeps h { cl with finished := true, reported := true }).trans ?_
  split
  · exact .refl _
  · exact (State.reportEnd_keeps _ _ _).keeps x

theorem State.clipRecord_keeps {cl : Clip} (h : (s.channel c).playhead = .clip cl) (r : GroupRecord) :
    Keeps x s (s.clipRecord c cl r) := by
  have hu := s.chainError_untouched
  unfold State.clipRecord
  split
  · exact State.setClip_keeps h _
  · exact State.endClipNow_keeps h
  · exact (Keeps.of_untouched hu).trans (State.endClipNow_keeps (by rwa [hu.channel]))

/-- A record is taken by the enabled channel that has asked for it (R63). -/
theorem State.takeRecord_keeps (he : (s.channel c).enabled = true) (r : GroupRecord) :
    Keeps x s (s.takeRecord c r) := by
  unfold State.takeRecord
  dsimp only
  refine (State.setFetch_keeps he .none).trans ?_
  have he' : ((s.modChannel c fun ch => { ch with fetch := .none }).channel c).enabled = true := by
    rw [State.modChannel_channel_self]; exact he
  split
  case h_1 k hk => exact State.chainRecord_keeps he' hk r
  case h_2 cl hk => exact State.clipRecord_keeps hk r
  case h_3 => exact .refl _
  case h_4 => exact .refl _

end Records

/-! ## Cues (R80 to R82) -/

section Cues
variable {s : State} {c : ChannelNo}

theorem State.setAction_keeps (he : (s.channel c).enabled = true) (a : Action) :
    Keeps none s (s.modChannel c fun ch => { ch with action := a }) :=
  .modChannel s c _ rfl rfl (fun hl => hl.setAction he a) fun _ => id

theorem State.commentaryCueOn_keeps (he : (s.channel c).enabled = true) (g : Nat) :
    Keeps none s (s.commentaryCueOn c g) := by
  -- In ANNOUNCE and LIVE the cue's context goes to the resume stack, or is lost.
  have saved {l : List Context} (hlow : Safety.lowState (s.channel c).playState = false)
      (hp : placeCommentary (s.channel c).stack ⟨g, 0, 0, g, s.now⟩ = some l) :
      Keeps none s (s.modChannel c fun ch => { ch with stack := l }) :=
    .modChannel s c _ rfl rfl (fun hl => hl.placeCommentary he hp) fun _ _ h => absurd h (by simp [hlow])
  have lost : Keeps none s s.contextLost := .of_untouched s.contextLost_untouched
  unfold State.commentaryCueOn
  dsimp only
  split
  · exact State.setAction_keeps he _
  · exact State.setAction_keeps he _
  · exact State.setAction_keeps he _
  · next hp =>
    split
    · next hl => exact saved (by rw [hp]; rfl) hl
    · exact lost
  · next hp =>
    split
    · next hl => exact saved (by rw [hp]; rfl) hl
    · exact lost

theorem State.takeCommentaryCue_keeps (s : State) (g : Nat) (set : ChannelSet) (hs : Orderly s) :
    Keeps none s (s.takeCommentaryCue g set) := by
  refine Keeps.foldl _ (fun s c _ => ?_) _ s hs
  split
  · next he => exact State.commentaryCueOn_keeps he.2 g
  · exact .refl s

theorem State.takeQuietCue_keeps (s : State) (set : ChannelSet) (hs : Orderly s) :
    Keeps none s (s.takeQuietCue set) := by
  refine Keeps.foldl _ (fun s c _ => ?_) _ s hs
  split
  · next he =>
    exact .modChannel s c _ (ChannelRec.takeQuiet_kept _).2.2.2 (ChannelRec.takeQuiet_offer _)
      (fun hl => hl.takeQuiet he.2) fun _ h => h.takeQuiet
  · exact .refl s

theorem CueSlot.cls_ne_live (q : CueSlot) : q.cls ≠ .live := by
  unfold CueSlot.cls; split <;> simp

theorem State.takeAnnounceCue_keeps (s : State) (q : CueSlot) (trip : Nat) :
    QueueKeeps s (s.takeAnnounceCue q trip) := by
  unfold State.takeAnnounceCue
  dsimp only
  split
  · exact .of_untouched s.countUnheard_untouched
  · split
    · exact .of_untouched s.cueDropped_untouched
    · exact (s.addEntry_keeps (by simp [q.cls_ne_live])).trans (State.judgeTrip_keeps _)

end Cues

/-! ## The choice at item end (R89 to R91) -/

/-- The channel stands between two items. -/
structure Between (s : State) (c : ChannelNo) : Prop where
  lawful : (s.channel c).Lawful
  enabled : (s.channel c).enabled = true
  quiet : (s.channel c).playState = .quiet
  kinds : Kinds s.queue.entries

section Choice
variable {s t : State} {c : ChannelNo}

theorem Between.after (h : Between s c) (hk : QueueKeeps s t) : Between t c :=
  ⟨(hk.heeds c).lawful h.lawful, (hk.enabled c).trans h.enabled, (hk.heeds c).quiet h.quiet, hk.kinds h.kinds⟩

/-- From between two items the channel has come to an item or to QUIET. -/
def Chosen (c : ChannelNo) (s t : State) : Prop := Keeps (some c) s t ∧ (t.channel c).Settled

theorem Chosen.after {u : State} (h : Chosen c t u) (hk : QueueKeeps s t) : Chosen c s u :=
  ⟨(hk.keeps _).trans h.1, h.2⟩

theorem Chosen.trans {u : State} (h : Chosen c s t) (hk : Keeps none t u) : Chosen c s u :=
  ⟨h.1.trans hk.weaken, hk.settled c nofun h.2⟩

theorem State.goQuiet_chosen (h : Between s c) : Chosen c s (s.goQuiet c) :=
  ⟨.modChannel s c _ rfl rfl (fun hl => hl.goQuiet h.quiet) fun hx => absurd rfl hx, by
    rw [State.goQuiet, State.modChannel_channel_self]; exact fun _ => rfl⟩

theorem State.putItem_chosen (h : Between s c) {ps : PlayState} {cls : ItemClass} {ph : Playhead}
    (hs : ph.Suits ps cls) (hlow : Safety.lowState ps = false) :
    Chosen c s (s.modChannel c fun ch => { ch with playState := ps, itemClass := cls, playhead := ph }) :=
  ⟨.modChannel s c _ rfl rfl (fun hl => hl.putItem h.enabled h.quiet hs hlow) fun hx => absurd rfl hx, by
    rw [State.modChannel_channel_self]; exact fun hl => absurd hl (by simp [hlow])⟩

theorem State.putClip_chosen (h : Between s c) {cls : AnnClass} (hc : cls ≠ .live) (id g : Nat) :
    Chosen c s (s.putClip c id g cls) :=
  State.putItem_chosen h ⟨rfl, by cases cls <;> simp_all [AnnClass.item]⟩ rfl

theorem State.fetchClip_keeps (he : (s.channel c).enabled = true) (g : Nat) : Keeps none s (s.fetchClip c g) := by
  have hu := s.chainError_untouched
  unfold State.fetchClip
  split
  · split
    case h_1 cl hp => exact (Keeps.of_untouched hu).trans (State.endClipNow_keeps (by rwa [hu.channel]))
    case h_2 => exact .refl s
    case h_3 => exact .refl s
    case h_4 => exact .refl s
  · exact State.setFetch_keeps he _

/-- An entry's clip begins or restarts, is reported, and its group is fetched (R90). -/
theorem State.clip_chosen (h : Between s c) {cls : AnnClass} (hc : cls ≠ .live) (id g : Nat) (report : State → State)
    (hr : ∀ t, QueueKeeps t (report t)) : Chosen c s ((report (s.putClip c id g cls)).fetchClip c g) := by
  have hput := State.putClip_chosen h hc id g
  have hreported := hput.trans ((hr _).keeps none)
  exact hreported.trans (State.fetchClip_keeps ((hreported.1.enabled c).trans h.enabled) g)

theorem State.beginEntry_chosen (h : Between s c) {e : Entry} (he : e ∈ s.queue.entries) :
    Chosen c s (s.beginEntry c e) := by
  unfold State.beginEntry
  dsimp only
  split
  · have hput := State.putItem_chosen h (ps := .live) (ph := .mic e.id false) ⟨rfl, rfl⟩ rfl
    exact hput.trans ((State.reportStart_keeps _ _ _ _).keeps none)
  · next g hg =>
    have hc : e.cls ≠ .live := fun hl => by simpa [hg] using (h.kinds e he).mpr hl
    exact State.clip_chosen h hc e.id g _ fun t => t.reportStart_keeps e.id c _

theorem State.restartEntry_chosen (h : Between s c) {e : Entry} (he : e ∈ s.queue.entries) :
    Chosen c s (s.restartEntry c e) := by
  unfold State.restartEntry
  split
  · next g hg =>
    have hc : e.cls ≠ .live := fun hl => by simpa [hg] using (h.kinds e he).mpr hl
    exact State.clip_chosen h hc e.id g _ fun t => t.reportRestart_keeps e.id c
  · exact State.goQuiet_chosen h

theorem State.popContext_keeps (s : State) (c : ChannelNo) : QueueKeeps s (s.popContext c) :=
  .modChannel s c _ rfl (ChannelRec.heeds_of_sublist (List.tail_sublist _))

/-- The choice at item end leaves no channel between items (R89). -/
theorem choose_chosen (n : Nat) (h : Between s c) : Chosen c s (choose n s c) := by
  induction n generalizing s with
  | zero => exact State.goQuiet_chosen h
  | succ n ih =>
    have popped := s.popContext_keeps c
    have poppedOn : Chosen c s (choose n (s.popContext c) c) := (ih (h.after popped)).after popped
    unfold choose
    split
    · next o _ =>
      split
      · have hr := s.reportUnheard_keeps o.id c
        exact (ih (h.after hr)).after hr
      · split
        · next he => exact State.beginEntry_chosen h (List.mem_of_find?_eq_some he)
        · exact State.goQuiet_chosen h
    · split
      · split
        · next he =>
          split
          · exact (State.restartEntry_chosen (h.after popped) (List.mem_of_find?_eq_some he)).after popped
          · exact poppedOn
        · exact poppedOn
      · next k rest hst =>
        split
        · have hnil : ((s.popContext c).channel c).stack = [] := by
            rw [State.popContext, State.modChannel_channel_self]
            simp [hst, h.lawful.tail_of_commentary hst]
          have hk := State.takeUpChain_keeps k.group k.offset k.walked k.start (h.after popped).enabled hnil
          exact Chosen.after ⟨hk.weaken, hk.settled c nofun fun _ => hnil⟩ popped
        · exact poppedOn
      · exact State.goQuiet_chosen h

end Choice

/-! ## Item ends and cuts (R85 to R88) -/

section Boundary
variable {s t : State} {c : ChannelNo} {ended : Bool}

/-- Where the current item has ended or been cut the channel is QUIET and may hold contexts; otherwise it stays
settled. -/
structure Judged (c : ChannelNo) (s t : State) (ended : Bool) : Prop where
  keeps : Keeps (some c) s t
  quiet : ended = true → (t.channel c).playState = .quiet
  settled : ended = false → (s.channel c).Settled → (t.channel c).Settled

theorem Judged.of_keeps (h : Keeps none s t) : Judged c s t false := ⟨h.weaken, nofun, fun _ => h.settled c nofun⟩

theorem Judged.after {u : State} (h : Judged c t u ended) (hk : Keeps none s t) : Judged c s u ended :=
  ⟨hk.weaken.trans h.keeps, h.quiet, fun he hs => h.settled he (hk.settled c nofun hs)⟩

/-- The current item ends, whatever its channel holds. -/
theorem State.endItem_judged (h : Keeps (some c) s t) : Judged c s (t.modChannel c ChannelRec.endItem) true :=
  ⟨h.trans (.modChannel t c _ rfl rfl ChannelRec.Lawful.endItem fun hx => absurd rfl hx),
    fun _ => by rw [State.modChannel_channel_self]; rfl, nofun⟩

/-- In QUIET, COMMENTARY and HOLD there are no contexts to be left with (R80, R81). -/
theorem State.applyAction_judged (he : (s.channel c).enabled = true) (hs : (s.channel c).Settled) :
    Judged c s (s.applyAction c).state (s.applyAction c).ended := by
  have clear := State.setAction_keeps (s := s) he .none
  have begin_ (g : Nat) (hlow : Safety.lowState (s.channel c).playState = true) :
      Keeps none s ((s.modChannel c fun ch => { ch with action := .none }).takeUpChain c g 0 0 g) :=
    clear.trans (State.takeUpChain_keeps g 0 0 g ((clear.enabled c).trans he)
      (by rw [State.modChannel_channel_self]; exact hs hlow))
  unfold State.applyAction
  dsimp only
  split
  · next hp => exact .of_keeps (begin_ _ (by rw [hp]; rfl))
  · next hp => exact .of_keeps (begin_ _ (by rw [hp]; rfl))
  · next hp => exact .of_keeps (begin_ _ (by rw [hp]; rfl))
  · exact State.endItem_judged clear.weaken
  · exact State.endItem_judged clear.weaken
  · exact .of_keeps clear
  · exact .of_keeps (.refl s)

theorem State.judgeItemEnd_judged (s : State) (c : ChannelNo) :
    Judged c s (s.judgeItemEnd c).1 (s.judgeItemEnd c).2 := by
  unfold State.judgeItemEnd
  split
  · split
    · exact State.endItem_judged (.refl s)
    · exact .of_keeps (.refl s)
    · exact .of_keeps (.refl s)
    · exact .of_keeps (.refl s)
  · next cl _ =>
    split
    · refine State.endItem_judged ?_
      split
      · exact .refl s
      · exact (s.reportEnd_keeps cl.id c).keeps _
    · exact .of_keeps (.refl s)
  · split
    · exact State.endItem_judged (.refl s)
    · exact .of_keeps (.refl s)
  · exact .of_keeps (.refl s)

theorem judgeOfferCut_keeps (n : Nat) (s : State) (c : ChannelNo) : QueueKeeps s (judgeOfferCut n s c).1 := by
  induction n generalizing s with
  | zero => exact .refl s
  | succ n ih =>
    unfold judgeOfferCut
    split
    · split
      · exact (s.reportUnheard_keeps _ _).trans (ih _)
      · exact .refl s
    · exact .refl s

/-- Room is made by the loss of the bottom context (R87). -/
theorem State.makeRoom_keeps (hd : (s.channel c).stack.length ≤ 2) :
    QueueKeeps s (s.makeRoom c) ∧ ((s.makeRoom c).channel c).stack.length < 2 := by
  unfold State.makeRoom
  dsimp only
  split
  · next hlt => exact ⟨.refl s, hlt⟩
  · generalize ht : (s.modChannel c fun ch => { ch with stack := (s.channel c).stack.dropLast }).contextLost = t
    have hdrop : QueueKeeps s t := by
      rw [← ht]
      exact (QueueKeeps.modChannel s c _ rfl (ChannelRec.heeds_of_sublist (List.dropLast_sublist _))).trans
        (.of_untouched (State.contextLost_untouched _))
    have hroom : (t.channel c).stack.length < 2 := by
      rw [← ht, (State.contextLost_untouched _).channel, State.modChannel_channel_self]
      simp only [List.length_dropLast]
      omega
    split
    · next id _ _ =>
      have hr := t.reportDiscarded_keeps id c
      exact ⟨hdrop.trans hr, (hr.heeds c).stack.length_le.trans_lt hroom⟩
    · exact ⟨hdrop, hroom⟩
    · exact ⟨hdrop, hroom⟩

/-- The context of a cut is pushed; that of a commentary goes to an empty stack (R87). -/
theorem State.pushContext_keeps (hl : (s.channel c).Lawful) (he : (s.channel c).enabled = true) {k : Context}
    (hk : k.isCommentary = true → (s.channel c).stack = []) : Keeps (some c) s (s.pushContext c k) := by
  obtain ⟨hq, hroom⟩ := State.makeRoom_keeps hl.depth
  refine (hq.keeps _).trans (.modChannel _ c _ rfl rfl (fun h => h.push ((hq.enabled c).trans he) hroom fun hc => ?_)
    fun hx => absurd rfl hx)
  exact List.sublist_nil.mp (hk hc ▸ (hq.heeds c).stack)

theorem State.cutItem_judged (hl : (s.channel c).Lawful) (he : (s.channel c).enabled = true)
    (hs : (s.channel c).Settled) (startedAt : Option Nat) : Judged c s (s.cutItem c startedAt) true := by
  unfold State.cutItem
  dsimp only
  refine State.endItem_judged ?_
  split
  · next k hk =>
    split
    · exact State.pushContext_keeps hl he fun _ => hs (hl.low_of_chain hk)
    · exact .refl s
  · exact (State.pushContext_keeps hl he fun hc => by simp [Context.isCommentary] at hc).trans
      ((State.reportCut_keeps _ _ _).keeps _)
  · exact .refl s
  · exact .refl s

theorem State.countHold_keeps (hp : (s.channel c).playState = .hold) :
    Keeps none s (s.modChannel c fun ch => { ch with hold := ch.hold - 1 }) :=
  .modChannel s c _ rfl rfl (fun hl => { hl with unheld := fun hn => absurd hp hn }) fun _ => id

theorem State.judgeCut_judged (hl : (s.channel c).Lawful) (he : (s.channel c).enabled = true)
    (hs : (s.channel c).Settled) (startedAt : Option Nat) :
    Judged c s (s.judgeCut c startedAt).1 (s.judgeCut c startedAt).2 := by
  have hq := judgeOfferCut_keeps (s.queue.entries.length + 1) s c
  unfold State.judgeCut
  dsimp only
  generalize judgeOfferCut (s.queue.entries.length + 1) s c = r at hq ⊢
  have cut : Judged c s (r.1.cutItem c startedAt) true :=
    (State.cutItem_judged ((hq.heeds c).lawful hl) ((hq.enabled c).trans he) ((hq.heeds c).settled hs) _).after
      (hq.keeps none)
  have stay : Judged c s r.1 false := .of_keeps (hq.keeps none)
  split
  · exact cut
  · split
    · next hp =>
      split
      · exact cut
      · exact .of_keeps ((hq.keeps none).trans (State.countHold_keeps hp))
    · exact stay
    · exact stay
    · exact stay
    · exact stay

/-- Steps 1 to 3 of a boundary (R70). -/
theorem State.judgeItem_judged (hl : (s.channel c).Lawful) (he : (s.channel c).enabled = true)
    (hs : (s.channel c).Settled) : Judged c s (s.judgeItem c).state (s.judgeItem c).ended := by
  have ha := State.applyAction_judged he hs
  unfold State.judgeItem
  dsimp only
  generalize s.applyAction c = p at ha ⊢
  split
  · exact ha
  · next hn =>
    have hp : Keeps none s p.state := ha.keeps.strengthen (ha.settled (by simpa using hn) hs)
    have hi := p.state.judgeItemEnd_judged c
    generalize p.state.judgeItemEnd c = r at hi ⊢
    split
    · next hr => exact (hr ▸ hi).after hp
    · next hn' =>
      have hr : Keeps none s r.1 :=
        hp.trans (hi.keeps.strengthen (hi.settled (by simpa using hn') (hp.settled c nofun hs)))
      exact (State.judgeCut_judged (hr.lawful c hl) ((hr.enabled c).trans he) (hr.settled c nofun hs) _).after hr

/-! ## The player (R72 to R75) -/

theorem State.advance_keeps (he : (s.channel c).enabled = true) : Keeps none s (s.advance c) := by
  unfold State.advance
  split
  · next k hk =>
    have rechained : ∀ {u}, Rechained c s u → Keeps none s u := fun h => h.keeps he hk
    have moved (k' : Chain) := rechained (Rechained.setPlayhead s c k')
    split
    · exact moved _
    · exact moved _
    · exact .refl s
    · split
      · exact moved _
      · split
        · exact rechained (State.enterGroup_rechained _ _ _ _ _ _)
        · exact moved _
        · exact moved _
  · next hk => exact State.setClip_keeps hk _
  · exact .refl s
  · exact .refl s

/-- The record differs at most in its buffers, in what its slot carries and to whom, and in its label. -/
def ChannelRec.Alike (ch ch' : ChannelRec) : Prop :=
  ch' = { ch with
    label0 := ch'.label0, label1 := ch'.label1, bufX := ch'.bufX, bufY := ch'.bufY, toggle := ch'.toggle
    listened := ch'.listened, fullPeriod := ch'.fullPeriod, output := ch'.output }

namespace ChannelRec

variable {ch ch' : ChannelRec}

theorem Alike.refl (ch : ChannelRec) : ch.Alike ch := rfl

theorem Alike.enabled (h : ch.Alike ch') : ch'.enabled = ch.enabled := by rw [h]

theorem Alike.offer (h : ch.Alike ch') : ch'.offer = ch.offer := by rw [h]

theorem Alike.lawful (h : ch.Alike ch') (hl : ch.Lawful) : ch'.Lawful := by
  rw [h]; exact { hl with }

theorem Alike.settled (h : ch.Alike ch') (hs : ch.Settled) : ch'.Settled := by
  rw [h]; exact hs

theorem alike_setBuf (ch : ChannelRec) (n : BufName) (b : Buffer) : ch.Alike (ch.setBuf n b) := by
  cases n <;> rfl

theorem alike_audioArrived (ch : ChannelRec) (n : BufName) (tag : Tag) (data : List Byte) :
    ch.Alike (ch.audioArrived n tag data) := by
  unfold ChannelRec.audioArrived
  split <;> exact alike_setBuf _ _ _

theorem alike_setListened (ch : ChannelRec) (on : Bool) : ch.Alike (ch.setListened on) := by
  cases on <;> rfl

end ChannelRec

theorem Keeps.of_alike (h : ∀ d, (s.channel d).Alike (t.channel d)) (hq : t.queue.entries = s.queue.entries)
    (hset : t.roster.enabled = s.roster.enabled) : Keeps none s t where
  enabled d := (h d).enabled
  set := hset
  kinds hk := hq ▸ hk
  offers := .inr ⟨hq, fun d => (h d).offer⟩
  lawful d := (h d).lawful
  settled d _ := (h d).settled

theorem State.alike_keeps {f : ChannelRec → ChannelRec} (h : (s.channel c).Alike (f (s.channel c))) :
    Keeps none s (s.modChannel c f) := by
  have ho := Only.modChannel s c f
  rw [← s.modChannel_channel_self c f] at h
  exact .of_alike (ho.forall_channel ChannelRec.Alike.refl h) ho.entries ho.set

theorem State.playBlock_keeps (he : (s.channel c).enabled = true) : Keeps none s (s.playBlock c) := by
  unfold State.playBlock
  dsimp only
  generalize ht : (if (s.channel c).blockReady = true then _ else _ : State) = t
  have hk : Keeps none s t := by
    rw [← ht]
    split
    · refine State.alike_keeps ?_
      cases hb : (s.channel c).toggle <;> exact rfl
    · refine Keeps.trans (Keeps.of_untouched ?_) (State.alike_keeps rfl)
      split
      · exact s.countUnderrun_untouched c
      · exact .refl s
  exact (hk.trans (State.advance_keeps ((hk.enabled c).trans he))).trans
    (State.alike_keeps rfl)

theorem State.play_keeps (he : (s.channel c).enabled = true) (began : Bool) : Keeps none s (s.play c began) := by
  have put (o : Output) : Keeps none s (s.modChannel c fun ch => { ch with output := o }) :=
    State.alike_keeps rfl
  have block : ∀ {o : Output},
      Keeps none s (if began = true then s.modChannel c fun ch => { ch with output := o } else s.playBlock c) := by
    intro o
    split
    · exact put o
    · exact State.playBlock_keeps he
  unfold State.play
  dsimp only
  split
  · exact put _
  · exact put _
  · exact block
  · exact block
  · exact block

/-! ## The block boundary (R70) -/

/-- Where an item has ended, or an offer finds the channel QUIET, the choice follows (R70, R89). -/
theorem State.choose_keeps (hs : Orderly s) (he : (s.channel c).enabled = true) (h : Judged c s t ended) (n : Nat)
    {offered : Bool} (hq : offered = true → (t.channel c).playState = .quiet) :
    Keeps none s (if ended || offered then choose n t c else t) := by
  split
  · next hdue =>
    have hquiet : (t.channel c).playState = .quiet := (Bool.or_eq_true_iff.mp hdue).elim h.quiet hq
    have hc := choose_chosen n
      ⟨h.keeps.lawful c (hs.lawful c), (h.keeps.enabled c).trans he, hquiet, h.keeps.kinds hs.kinds⟩
    exact (h.keeps.trans hc.1).strengthen hc.2
  · next hdue =>
    have hended : ended = false := by simp at hdue; exact hdue.1
    exact h.keeps.strengthen (h.settled hended (hs.settled c))

/-- A channel is settled in the six steps of R70. -/
theorem State.settleChannel_keeps (hs : Orderly s) (c : ChannelNo) : Keeps none s (s.settleChannel c) := by
  unfold State.settleChannel
  dsimp only
  split
  · next he =>
    have hj := State.judgeItem_judged (hs.lawful c) he (hs.settled c)
    generalize s.judgeItem c = p at hj ⊢
    have hc := State.choose_keeps hs he hj (p.state.chooseFuel c)
      (offered := (p.state.channel c).playState = .quiet && (p.state.channel c).offer.isSome)
      fun h => of_decide_eq_true (Bool.and_eq_true_iff.mp h).1
    exact (hc.trans (State.play_keeps ((hc.enabled c).trans he) _)).trans (State.alike_keeps rfl)
  · exact .refl s

/-- Every channel in turn, and the deck output (R70, R95). -/
theorem blockBoundary_keeps (hs : Orderly s) : Keeps none s (blockBoundary s) := by
  have hu : Keeps none s (s.reach s.engine.nextBoundary) := .of_untouched (s.reach_untouched _)
  have hk := hu.trans (Keeps.foldl State.settleChannel (fun s c hs => State.settleChannel_keeps hs c) (List.finRange 12)
    _ (hu.orderly hs))
  unfold blockBoundary State.forChannels
  dsimp only
  generalize List.foldl State.settleChannel _ _ = t at hk ⊢
  exact hk.trans (.of_untouched ⟨rfl, rfl, rfl⟩)

end Boundary

/-! ## Disabling (R66, R67, R119, R161) -/

/-- What stands while a new enabled set is taken: a newly enabled channel may still miss the offer of an entry. -/
structure Enabling (s : State) : Prop extends Steady s where
  offers : s.queue.entries = [] → Safety.Offers s

section Disable
variable {s t : State} {c : ChannelNo}

theorem Enabling.after (h : Enabling s) (hk : Keeps none s t) : Enabling t where
  toSteady := hk.steady h.toSteady
  offers ht := by
    rcases hk.offers with ho | ⟨hq, -⟩
    · exact ho
    · exact hk.keeps_offers (h.offers (hq ▸ ht))

/-- Of all the channels only `c` has changed. -/
theorem Enabling.of_only (h : Enabling s) (ho : Only c s t) (hl : (t.channel c).Lawful) (hs : (t.channel c).Settled)
    (hc : s.queue.entries = [] → (t.channel c).enabled = true → (t.channel c).offer = none) : Enabling t where
  lawful d := by
    by_cases hd : d = c
    · exact hd ▸ hl
    · rw [ho.others d hd]; exact h.lawful d
  settled d := by
    by_cases hd : d = c
    · exact hd ▸ hs
    · rw [ho.others d hd]; exact h.settled d
  offers ht d hd := by
    have hq := ho.entries ▸ ht
    by_cases hdc : d = c
    · subst hdc; rw [hc hq hd, ht]; rfl
    · rw [ho.others d hdc] at hd ⊢
      rw [ho.entries]
      exact h.offers hq d hd

/-- One channel takes the new enabled set. -/
def State.enableOn (s : State) (set : ChannelSet) (c : ChannelNo) : State :=
  if inSet set c then s.modChannel c fun ch => { ch with enabled := true }
  else if (s.channel c).enabled then s.settleDisable c
  else s

theorem State.engineEnable_eq (s : State) (set : ChannelSet) :
    s.engineEnable set = (List.finRange 12).foldl (fun s c => s.enableOn set c) s := rfl

theorem ChannelRec.Lawful.enable {ch : ChannelRec} (h : ch.Lawful) :
    ({ ch with enabled := true } : ChannelRec).Lawful :=
  { h with empty := nofun }

/-- The reports of a disabled channel, and what it holds then: nothing. -/
theorem State.settleDisable_eq (s : State) (c : ChannelNo) :
    ∃ t, QueueKeeps s t ∧ s.settleDisable c = t.modChannel c ChannelRec.disable := by
  unfold State.settleDisable
  dsimp only
  refine ⟨_, ?_, rfl⟩
  refine QueueKeeps.trans ?_ (QueueKeeps.foldl _ (fun s k => ?_) _ _)
  · split
    · exact s.reportDisabled_keeps _ c
    · exact s.reportDisabled_keeps _ c
    · exact .refl s
    · exact .refl s
  · split
    · exact s.reportDiscarded_keeps _ c
    · exact .refl s

theorem State.enableOn_enabling (h : Enabling s) (set : ChannelSet) (c : ChannelNo) :
    Enabling (s.enableOn set c) ∧ ((s.enableOn set c).channel c).enabled = inSet set c
      ∧ ∀ d, d ≠ c → ((s.enableOn set c).channel d).enabled = (s.channel d).enabled := by
  unfold State.enableOn
  split
  · next hin =>
    refine ⟨h.of_only (.modChannel s c _) ?_ ?_ fun hq _ => ?_, ?_, fun d hd => ?_⟩
    · rw [State.modChannel_channel_self]; exact (h.lawful c).enable
    · rw [State.modChannel_channel_self]; exact h.settled c
    · rw [State.modChannel_channel_self]
      show (s.channel c).offer = none
      cases he : (s.channel c).enabled with
      | false =>
        obtain ⟨-, -, -, hnone, -⟩ := (h.lawful c).empty he
        exact hnone
      | true => rw [h.offers hq c he, hq]; rfl
    · rw [State.modChannel_channel_self, hin]
    · rw [State.modChannel_channel_ne _ _ _ _ hd]
  · next hin =>
    have hout : inSet set c = false := Bool.eq_false_iff.mpr hin
    split
    · obtain ⟨t, hk, ht⟩ := s.settleDisable_eq c
      rw [ht]
      refine ⟨(h.after (hk.keeps none)).of_only (.modChannel t c _) ?_ ?_ fun _ he => ?_, ?_, fun d hd => ?_⟩
      · rw [State.modChannel_channel_self]; exact ChannelRec.lawful_disable _
      · rw [State.modChannel_channel_self]; exact ChannelRec.settled_disable _
      · rw [State.modChannel_channel_self]; rfl
      · rw [State.modChannel_channel_self, hout]; rfl
      · rw [State.modChannel_channel_ne _ _ _ _ hd, hk.enabled]
    · next he => exact ⟨h, by rw [hout]; exact Bool.eq_false_iff.mpr he, fun _ _ => rfl⟩

/-- Of the channels that have taken the set, those of the set are enabled. -/
theorem State.enableAll_enabling (set : ChannelSet) (l : List ChannelNo) (h : Enabling s)
    (hl : ∀ c, c ∉ l → (s.channel c).enabled = inSet set c) :
    Enabling (l.foldl (fun s c => s.enableOn set c) s)
      ∧ ∀ c, ((l.foldl (fun s c => s.enableOn set c) s).channel c).enabled = inSet set c := by
  induction l generalizing s with
  | nil => exact ⟨h, fun c => hl c (List.not_mem_nil)⟩
  | cons c l ih =>
    obtain ⟨h', hc, hd⟩ := State.enableOn_enabling h set c
    refine ih h' fun d hnot => ?_
    by_cases hdc : d = c
    · exact hdc ▸ hc
    · rw [hd d hdc]; exact hl d (by simp [hdc, hnot])

/-- Entries judged one after another leave every offer right, if there is one to judge. -/
theorem State.judgeAll_offers (l : List Entry) (h : l = [] → Safety.Offers s) :
    Safety.Offers (l.foldl (fun s e => s.afterChange e.id) s) := by
  cases l with
  | nil => exact h rfl
  | cons e l =>
    exact (QueueKeeps.foldl _ (fun s (e : Entry) => s.afterChange_keeps e.id) l _).keeps_offers
      (s.afterChange_offers e.id)

/-- The OPEN obligations of the channels in `off` are settled as UNHEARD, and nothing has followed yet (R119). -/
def State.openUnheard (s : State) (off : ChannelNo → Bool) : State :=
  { s with queue :=
    { s.queue with entries := s.queue.entries.map fun e =>
        { e with obligations := e.obligations.map fun o =>
            if off o.channel ∧ o.state = .opened then { o with state := .unheard } else o } } }

theorem State.queueDisable_eq (s : State) (off : ChannelNo → Bool) :
    s.queueDisable off
      = (s.openUnheard off).queue.entries.foldl (fun s e => s.afterChange e.id) (s.openUnheard off) := rfl

/-- The queue judges every entry anew, and every offer is right (R104, R119). -/
theorem State.queueDisable_enabling (h : Enabling s) (off : ChannelNo → Bool) :
    Enabling (s.queueDisable off) ∧ Safety.Offers (s.queueDisable off)
      ∧ ∀ c, ((s.queueDisable off).channel c).enabled = (s.channel c).enabled := by
  have hnil : (s.openUnheard off).queue.entries = [] → Safety.Offers (s.openUnheard off) := fun hq c hc => by
    have hsq : s.queue.entries = [] := List.map_eq_nil_iff.mp hq
    rw [hq, ← hsq]
    exact h.offers hsq c hc
  have hk := QueueKeeps.foldl (fun s (e : Entry) => s.afterChange e.id) (fun s e => s.afterChange_keeps e.id)
    (s.openUnheard off).queue.entries (s.openUnheard off)
  rw [State.queueDisable_eq]
  exact ⟨Enabling.after (s := s.openUnheard off) ⟨⟨h.lawful, h.settled⟩, hnil⟩ (hk.keeps none),
    State.judgeAll_offers _ hnil, hk.enabled⟩

end Disable

/-! ## Census and LISTENED (R76, R157, R158) -/

section Roster
variable {s : State}

/-- What the roster hands the channel engine is LISTENED alone (R76). -/
theorem State.judgeListened_alike (s : State) (c : ChannelNo) : (s.channel c).Alike (s.judgeListened.channel c) := by
  rw [State.judgeListened_channel]
  split
  · exact .refl _
  · exact ChannelRec.alike_setListened _ _

theorem State.judgeListened_keeps (s : State) : Keeps none s s.judgeListened :=
  .of_alike s.judgeListened_alike rfl rfl

theorem State.recount_keeps (s : State) : Keeps none s s.recount :=
  .of_alike (fun c => State.judgeListened_alike { s with roster := _ } c) rfl rfl

theorem State.seatEvent_untouched (s : State) (changed : Bool) : Untouched s (s.seatEvent changed) := by
  cases changed
  · exact .refl s
  · exact ⟨rfl, rfl, rfl⟩

theorem State.putSeat_keeps (s : State) (i : SeatNo) (y : Seat) : Keeps none s (s.putSeat i y) := by
  unfold State.putSeat
  dsimp only
  refine Keeps.trans ?_ (.of_untouched (State.seatEvent_untouched _ _))
  refine Keeps.trans (.of_untouched ?_) (State.recount_keeps _)
  exact ⟨rfl, rfl, rfl⟩

end Roster

/-! ## Lawful channels -/

/-- The channels are steady, each enabled one has the offer it is due, and the roster's set says which are enabled. -/
structure ChannelsLawful (s : State) : Prop extends Steady s where
  offers : Safety.Offers s
  enabled : ∀ c, (s.channel c).enabled = inSet s.roster.enabled c

/-- These are the invariants of the statement. -/
theorem channelsLawful_iff (s : State) :
    ChannelsLawful s ↔ Safety.Stacks s ∧ Safety.Disabled s ∧ Safety.Offers s ∧ Safety.Hold s := by
  constructor
  · intro h
    refine ⟨fun c => ⟨⟨(h.lawful c).depth, (commentaryAtBottom_iff _).mpr (h.lawful c).bottom, h.settled c⟩,
        (itemsAgree_iff _).mpr (h.lawful c).agree⟩,
      fun c => ⟨h.enabled c, (h.lawful c).empty⟩, h.offers,
      fun c => ⟨(h.lawful c).offered, (h.lawful c).unwaited, (h.lawful c).unheld⟩⟩
  · rintro ⟨hst, hdis, hoff, hhold⟩
    refine ⟨⟨fun c => ?_, fun c => ?_⟩, hoff, fun c => ?_⟩
    · obtain ⟨⟨depth, bottom, -⟩, agree⟩ := hst c
      obtain ⟨-, empty⟩ := hdis c
      obtain ⟨offered, unwaited, unheld⟩ := hhold c
      exact ⟨⟨depth, (commentaryAtBottom_iff _).mp bottom, (itemsAgree_iff _).mp agree, empty, unheld⟩, offered,
        unwaited⟩
    · obtain ⟨⟨-, -, settled⟩, -⟩ := hst c
      exact settled
    · obtain ⟨enabled, -⟩ := hdis c
      exact enabled

theorem Keeps.channelsLawful {s t : State} (h : Keeps none s t) (hs : ChannelsLawful s) : ChannelsLawful t where
  toSteady := h.steady hs.toSteady
  offers := h.keeps_offers hs.offers
  enabled c := by rw [h.enabled, h.set]; exact hs.enabled c

theorem ChannelsLawful.orderly {s : State} (h : ChannelsLawful s) (hq : Safety.Queue s) : Orderly s := by
  obtain ⟨-, -, -, -, kinds, -, -⟩ := hq
  exact ⟨h.toSteady, kinds⟩

/-! ## CHANNEL_ENABLE and DEVICE_RESET (R67, R160, R161, R198) -/

/-- The new set is taken by the engine and then by the queue (R161). -/
theorem channelEnableRequest_lawful {s : State} (hs : ChannelsLawful s) (a : Args) :
    ChannelsLawful (channelEnableRequest s a) := by
  unfold channelEnableRequest
  dsimp only
  split
  · exact (Keeps.of_untouched (s.answer_untouched _ _ _)).channelsLawful hs
  · generalize a.a0.extractLsb' 0 12 = set
    generalize ht : (State.answer { s with roster := { s.roster with enabled := set } } .crew .ok 0).recount = t
    have hset : t.roster.enabled = set := by rw [← ht]; rfl
    have hstart : Enabling (State.answer { s with roster := { s.roster with enabled := set } } .crew .ok 0) :=
      ⟨⟨hs.lawful, hs.settled⟩, fun _ => hs.offers⟩
    have ht' : Enabling t := ht ▸ hstart.after (State.recount_keeps _)
    obtain ⟨he, hc⟩ := State.enableAll_enabling set (List.finRange 12) ht' fun c hn => absurd (List.mem_finRange c) hn
    rw [← State.engineEnable_eq] at he hc
    have haudio := t.engineEnable_audio set
    obtain ⟨hq, hoff, henabled⟩ :=
      State.queueDisable_enabling he fun c => inSet s.roster.enabled c && !inSet set c
    refine ⟨hq.toSteady, hoff, fun c => ?_⟩
    rw [henabled, hc, (State.queueDisable_audio _ _).roster, haudio.roster, hset]

/-- Under RESET# no channel is enabled and the queue is empty (R198). -/
theorem deviceReset_lawful (s : State) : ChannelsLawful (deviceReset s) := by
  have hreset : ∀ c, (deviceReset s).channel c = ChannelRec.reset := fun c => by
    simp [State.channel, deviceReset, State.held, ChannelEngine.reset]
  refine ⟨⟨fun c => ?_, fun c => ?_⟩, fun c _ => ?_, fun c => ?_⟩ <;> rw [hreset]
  · exact ⟨⟨by simp [ChannelRec.reset], .nil, ⟨rfl, rfl⟩, fun _ => ⟨rfl, rfl, rfl, rfl, rfl⟩, fun _ => rfl⟩, nofun,
      nofun⟩
  · exact fun _ => rfl
  · rfl
  · simp [deviceReset, State.held, Roster.reset, ChannelRec.reset, inSet]

/-! ## Cues fired and metres walked (R5, R10, R33, R35) -/

section Route
variable {s : State}

theorem State.fireCue_keeps (hs : Orderly s) (q : CueSlot) (trip : Nat) : Keeps none s (s.fireCue q trip) := by
  unfold State.fireCue
  split
  · split
    · exact s.takeCommentaryCue_keeps _ _ hs
    · exact .of_untouched s.cueDropped_untouched
  · exact s.takeQuietCue_keeps _ hs
  · split
    · exact .of_untouched s.cueDropped_untouched
    · exact (s.takeAnnounceCue_keeps q trip).keeps none
  · exact .of_untouched ⟨rfl, rfl, rfl⟩
  · exact .of_untouched ⟨rfl, rfl, rfl⟩
  · exact .refl s

theorem fireThrough_keeps (n : Nat) (hs : Orderly s) (q trip : Nat) : Keeps none s (fireThrough n s q trip) := by
  induction n generalizing s with
  | zero => exact .refl s
  | succ n ih =>
    unfold fireThrough
    dsimp only
    split
    · next slot _ =>
      split
      · have hu : Keeps none s { s with script := { s.script with pointer := s.script.pointer + 1 } } :=
          .of_untouched ⟨rfl, rfl, rfl⟩
        have hk := hu.trans (State.fireCue_keeps (hu.orderly hs) slot trip)
        exact hk.trans (ih (hk.orderly hs))
      · exact .refl s
    · exact .refl s

theorem State.fireUpTo_keeps (hs : Orderly s) (q trip : Nat) : Keeps none s (s.fireUpTo q trip) :=
  fireThrough_keeps _ hs q trip

theorem State.judgeLate_untouched (s : State) : Untouched s s.judgeLate := by
  unfold State.judgeLate
  split
  · split
    · exact ⟨rfl, rfl, rfl⟩
    · exact .refl s
  · exact .refl s

theorem State.executeSwitch_untouched (s : State) : Untouched s s.executeSwitch := ⟨rfl, rfl, rfl⟩

theorem State.offer_keeps (hs : Orderly s) (wrapped : Bool) (trip : Nat) : Keeps none s (s.offer wrapped trip) := by
  unfold State.offer
  split
  · have hu : Keeps none s { s with script := { s.script with pointer := 0 } } := .of_untouched ⟨rfl, rfl, rfl⟩
    exact (hu.trans (State.fireUpTo_keeps (hu.orderly hs) 0 trip)).trans (.of_untouched (State.judgeLate_untouched _))
  · exact State.fireUpTo_keeps hs _ _

theorem State.odometerAdvance_keeps (hs : Orderly s) : Keeps none s s.odometerAdvance := by
  unfold State.odometerAdvance
  dsimp only
  generalize ht : ({ s with route := _ } : State) = t
  have hu : Keeps none s t := .of_untouched (by rw [← ht]; exact ⟨rfl, rfl, rfl⟩)
  have hj := hu.trans (t.judgeTrip_keeps.keeps none)
  generalize t.judgeTrip = u at hj ⊢
  have ho := hj.trans (State.offer_keeps (hj.orderly hs) s.route.wraps u.route.trip)
  generalize u.offer s.route.wraps u.route.trip = v at ho ⊢
  split
  · exact ho.trans (.of_untouched (v.executeSwitch_untouched.trans ⟨rfl, rfl, rfl⟩))
  · exact ho

theorem odometerPulse_keeps (hs : Orderly s) : Keeps none s (odometerPulse s) := by
  unfold odometerPulse
  split
  · exact .of_untouched ⟨rfl, rfl, rfl⟩
  · have hu : Keeps none s { s with route := { s.route with prescaler := 0 } } := .of_untouched ⟨rfl, rfl, rfl⟩
    exact hu.trans (State.odometerAdvance_keeps (hu.orderly hs))

theorem State.walkStep_keeps (hs : Orderly s) (trip : Nat) : Keeps none s (s.walkStep trip) := by
  have hu : Keeps none s { s with route := s.route.forward } := .of_untouched ⟨rfl, rfl, rfl⟩
  exact hu.trans (State.offer_keeps (hu.orderly hs) s.route.wraps trip)

theorem catchUp_keeps (n : Nat) (hs : Orderly s) (trip : Nat) : Keeps none s (catchUp n s trip) := by
  induction n generalizing s trip with
  | zero => exact .refl s
  | succ n ih =>
    have hw := State.walkStep_keeps hs (tripAdd trip 1)
    unfold catchUp
    dsimp only
    generalize s.walkStep (tripAdd trip 1) = t at hw ⊢
    split
    · exact hw.trans (.of_untouched (t.executeSwitch_untouched.trans ⟨rfl, rfl, rfl⟩))
    · exact hw.trans (ih (hw.orderly hs) _)

theorem State.freshFix_untouched (s : State) : Untouched s s.freshFix := by
  unfold State.freshFix
  dsimp only
  split <;> exact ⟨rfl, rfl, rfl⟩

theorem State.moveTo_keeps (hs : Orderly s) (q : Nat) : Keeps none s (s.moveTo q) := by
  unfold State.moveTo
  dsimp only
  split
  · exact .refl s
  · split
    · generalize ht : ({ s with route := _ } : State) = t
      have hu : Keeps none s t := .of_untouched (by rw [← ht]; exact ⟨rfl, rfl, rfl⟩)
      have hj := hu.trans (t.judgeTrip_keeps.keeps none)
      exact hj.trans (catchUp_keeps _ (hj.orderly hs) _)
    · exact .of_untouched ⟨rfl, rfl, rfl⟩

theorem State.applyLap_untouched (s : State) (lap : Option Nat) : Untouched s (s.applyLap lap) := by
  cases lap
  · exact .refl s
  · exact ⟨rfl, rfl, rfl⟩

theorem fixRequest_keeps (hs : Orderly s) (a : Args) : Keeps none s (fixRequest s a) := by
  unfold fixRequest
  split
  · exact .of_untouched (s.answer_untouched _ _ _)
  · split
    · exact .of_untouched (s.answer_untouched _ _ _)
    · have hu : Keeps none s s.freshFix := .of_untouched s.freshFix_untouched
      exact (hu.trans (State.moveTo_keeps (hu.orderly hs) _)).trans
        (.of_untouched ((State.applyLap_untouched _ _).trans (State.answer_untouched _ _ _ _)))

theorem fixTimerExpiry_untouched (s : State) : Untouched s (fixTimerExpiry s) := by
  unfold fixTimerExpiry
  split
  · exact ⟨rfl, rfl, rfl⟩
  · exact .refl s

theorem speedWindowEnd_untouched (s : State) : Untouched s (speedWindowEnd s) := by
  unfold speedWindowEnd
  dsimp only
  split <;> exact ⟨rfl, rfl, rfl⟩

end Route

/-! ## The script unit's requests (R22 to R30) -/

section Script
variable (s : State) (p : Port) (a : Args)

theorem claimShadowRequest_untouched : Untouched s (claimShadowRequest p s a) := by
  unfold claimShadowRequest
  split <;> exact ⟨rfl, rfl, rfl⟩

theorem releaseShadowRequest_untouched : Untouched s (releaseShadowRequest p s a) := by
  unfold releaseShadowRequest
  split <;> exact ⟨rfl, rfl, rfl⟩

theorem switchRequest_untouched : Untouched s (switchRequest p s a) := by
  unfold switchRequest
  split
  · exact s.answer_untouched _ _ _
  · split
    · exact s.answer_untouched _ _ _
    · dsimp only
      split
      · exact s.answer_untouched _ _ _
      · split <;> exact ⟨rfl, rfl, rfl⟩

theorem cancelSwitchRequest_untouched : Untouched s (cancelSwitchRequest p s a) := by
  unfold cancelSwitchRequest
  split
  · exact s.answer_untouched _ _ _
  · split <;> exact ⟨rfl, rfl, rfl⟩

end Script

/-! ## The store reader (R55 to R63) -/

section Store
variable {s : State}

theorem State.startDirectory_keeps {c : ChannelNo} (he : (s.channel c).enabled = true) (g : Nat) :
    Keeps none s (s.startDirectory c g) := by
  unfold State.startDirectory
  generalize ht : ({ s with reader := _ } : State) = t
  have hu : Untouched s t := by rw [← ht]; exact ⟨rfl, rfl, rfl⟩
  exact (Keeps.of_untouched hu).trans (State.setFetch_keeps (by rwa [hu.channel]) _)

theorem State.startAudio_keeps (s : State) (c : ChannelNo) (n : BufName) (tag : Tag) (start : Nat) :
    Keeps none s (s.startAudio c n tag start) := by
  unfold State.startAudio
  refine Keeps.trans (.of_untouched ?_) (State.alike_keeps (ChannelRec.alike_setBuf _ _ _))
  exact ⟨rfl, rfl, rfl⟩

/-- Only a channel with a directory request pending has a group to fetch (R57). -/
theorem ChannelRec.fetch_of_directoryRequest {ch : ChannelRec} {g : Nat} (h : ch.directoryRequest = some g) :
    ch.fetch = .pending g := by
  unfold ChannelRec.directoryRequest at h
  split at h <;> simp_all

theorem State.startFor_keeps (hs : Orderly s) (c : ChannelNo) : Keeps none s (s.startFor c) := by
  unfold State.startFor
  dsimp only
  split
  · next g hg =>
    exact State.startDirectory_keeps
      ((hs.lawful c).enabled_of_fetch (by rw [ChannelRec.fetch_of_directoryRequest hg]; nofun)) g
  · split
    · exact s.startAudio_keeps _ _ _ _
    · exact .refl s

theorem readStart_keeps (hs : Orderly s) : Keeps none s (readStart s) := by
  unfold readStart
  split
  · exact .refl s
  · split
    · exact State.startFor_keeps hs _
    · exact .refl s

theorem State.readDone_untouched (s : State) (r : Read) : Untouched s (s.readDone r) := ⟨rfl, rfl, rfl⟩

theorem headerReadComplete_untouched (s : State) (bytes : Vector Byte 64) :
    Untouched s (headerReadComplete s bytes) := by
  unfold headerReadComplete
  split
  · split
    · exact ⟨rfl, rfl, rfl⟩
    · exact .refl s
    · exact .refl s
  · exact .refl s

theorem directoryFetchComplete_keeps (hs : Orderly s) (bytes : Vector Byte 64) :
    Keeps none s (directoryFetchComplete s bytes) := by
  unfold directoryFetchComplete
  split
  · next r _ =>
    have hu : Keeps none s (s.readDone r) := .of_untouched (s.readDone_untouched r)
    split
    · next c _ =>
      dsimp only
      split
      · next hf =>
        exact hu.trans (State.takeRecord_keeps (((hu.orderly hs).lawful c).enabled_of_fetch (by rw [hf]; nofun)) _)
      · exact hu
      · exact hu
    · exact .refl s
    · exact .refl s
  · exact .refl s

theorem audioReadComplete_keeps (s : State) (bytes : Vector Byte 512) : Keeps none s (audioReadComplete s bytes) := by
  unfold audioReadComplete
  split
  · next r _ =>
    split
    · exact (Keeps.of_untouched (s.readDone_untouched r)).trans
        (State.alike_keeps (ChannelRec.alike_audioArrived _ _ _ _))
    · exact .refl s
    · exact .refl s
  · exact .refl s

end Store

/-! ## The queue's requests and timers (R106 to R118) -/

section Queue
variable (s : State) (a : Args)

theorem announceClass_ne_live {w : Word} {cls : AnnClass} (h : announceClass w = some cls) : cls ≠ .live := by
  unfold announceClass at h
  split at h
  · cases h; nofun
  · cases h; nofun
  · cases h

theorem announceRequest_keeps (p : Port) : QueueKeeps s (announceRequest p s a) := by
  have answered (r : ResultCode) : QueueKeeps s (s.answer p r 0) := .of_untouched (s.answer_untouched _ _ _)
  unfold announceRequest
  split
  · exact answered _
  · next cls hcls =>
    split
    · exact answered _
    · split
      · exact answered _
      · next launch _ =>
        split
        · exact answered _
        · split
          · exact answered _
          · split
            · exact answered _
            · split
              · exact answered _
              · have he : (announceEntry s p cls launch a).content = .mic
                    ↔ (announceEntry s p cls launch a).cls = .live := by
                  simp [announceEntry, announceClass_ne_live hcls]
                exact ((s.addEntry_keeps he).trans (State.judgeTrip_keeps _)).trans
                  (.of_untouched (State.answer_untouched _ _ _ _))

theorem cancelRequest_keeps : QueueKeeps s (cancelRequest s a) := by
  unfold cancelRequest
  dsimp only
  split
  · exact .of_untouched (s.answer_untouched _ _ _)
  · split
    · exact .of_untouched (s.answer_untouched _ _ _)
    · exact (s.cancelEntry_keeps _).trans (.of_untouched (State.answer_untouched _ _ _ _))

theorem liveOnRequest_keeps : QueueKeeps s (liveOnRequest s a) := by
  have answered (r : ResultCode) : QueueKeeps s (s.answer .crew r 0) := .of_untouched (s.answer_untouched _ _ _)
  unfold liveOnRequest
  split
  · exact answered _
  · split
    · exact answered _
    · split
      · exact answered _
      · split
        · exact answered _
        · split
          · exact answered _
          · dsimp only
            refine QueueKeeps.trans ?_ (.of_untouched (State.answer_untouched _ _ _ _))
            refine QueueKeeps.trans (.of_untouched ?_) (State.addEntry_keeps _ (by simp [liveOnEntry]))
            exact ⟨rfl, rfl, rfl⟩

theorem liveOffRequest_keeps : QueueKeeps s (liveOffRequest s a) := by
  unfold liveOffRequest
  split
  · exact .of_untouched (s.answer_untouched _ _ _)
  · exact s.endLive_keeps.trans (.of_untouched (State.answer_untouched _ _ _ _))

theorem liveTimerExpiry_keeps : QueueKeeps s (liveTimerExpiry s) := by
  unfold liveTimerExpiry
  split
  · dsimp only
    refine QueueKeeps.trans (.of_untouched ?_) (State.endLive_keeps _)
    exact ⟨rfl, rfl, rfl⟩
  · exact .refl s

theorem entryExpiryTimer_keeps (id : Nat) : QueueKeeps s (entryExpiryTimer s id) := by
  unfold entryExpiryTimer
  split
  · split
    · exact (QueueKeeps.of_untouched (s.reach_untouched _)).trans (State.takeExpiry_keeps _ id)
    · exact .refl s
  · exact .refl s

end Queue

/-! ## The roster's requests and reports (R140, R150 to R159) -/

section Seats
variable (s : State) (a : Args)

theorem deckRequest_keeps : Keeps none s (deckRequest s a) := by
  unfold deckRequest
  split
  · exact .of_untouched (s.answer_untouched _ _ _)
  · split
    · exact .of_untouched (s.answer_untouched _ _ _)
    · refine Keeps.trans ?_ (.of_untouched (State.answer_untouched _ _ _ _))
      refine Keeps.trans (.of_untouched ?_) (State.judgeListened_keeps _)
      exact ⟨rfl, rfl, rfl⟩

theorem assignRequest_keeps : Keeps none s (assignRequest s a) := by
  have answered : Keeps none s (s.answer .fare .badArgument 0) := .of_untouched (s.answer_untouched _ _ _)
  unfold assignRequest
  dsimp only
  split
  · split
    · exact answered
    · split
      · exact answered
      · split
        · exact answered
        · exact (s.putSeat_keeps _ _).trans (.of_untouched (State.answer_untouched _ _ _ _))
  · exact answered

theorem releaseRequest_keeps : Keeps none s (releaseRequest s a) := by
  unfold releaseRequest
  split
  · exact (s.putSeat_keeps _ _).trans (.of_untouched (State.answer_untouched _ _ _ _))
  · exact .of_untouched (s.answer_untouched _ _ _)

theorem releaseAllRequest_keeps : Keeps none s (releaseAllRequest s a) := by
  unfold releaseAllRequest
  dsimp only
  refine Keeps.trans ?_ (.of_untouched (State.answer_untouched _ _ _ _))
  refine Keeps.trans ?_ (.of_untouched (State.seatEvent_untouched _ _))
  refine Keeps.trans (.of_untouched ?_) (State.recount_keeps _)
  exact ⟨rfl, rfl, rfl⟩

theorem lockIndicatorExpiry_untouched (i : SeatNo) : Untouched s (lockIndicatorExpiry s i) := by
  unfold lockIndicatorExpiry
  split
  · exact ⟨rfl, rfl, rfl⟩
  · exact .refl s

theorem State.moveCursor_untouched (g : SegmentNo) (n : Nat) : Untouched s (s.moveCursor g n) := by
  unfold State.moveCursor
  split <;> exact ⟨rfl, rfl, rfl⟩

theorem cycleStart_untouched (g : SegmentNo) : Untouched s (cycleStart g s) := by
  unfold cycleStart
  dsimp only
  split
  · exact .refl s
  · refine Untouched.trans ?_ (State.moveCursor_untouched _ _ _)
    exact ⟨rfl, rfl, rfl⟩

theorem poll_untouched (g : SegmentNo) : Untouched s (poll g s) := by
  unfold poll
  dsimp only
  split
  · exact ⟨rfl, rfl, rfl⟩
  · exact .refl s

theorem State.putStation_untouched (i : SeatNo) (y : Station) : Untouched s (s.putStation i y) := by
  unfold State.putStation
  dsimp only
  split <;> exact ⟨rfl, rfl, rfl⟩

theorem State.takeReport_keeps (i : SeatNo) (m : Report) : Keeps none s (s.takeReport i m) := s.putSeat_keeps _ _

theorem State.goodReply_keeps (i : SeatNo) (m : Reply) : Keeps none s (s.goodReply i m) :=
  (Keeps.of_untouched (s.putStation_untouched _ _)).trans (State.takeReport_keeps _ _ _)

theorem State.miss_keeps (i : SeatNo) : Keeps none s (s.miss i) := by
  have hu : Keeps none s (s.putStation i (s.station i).missed) := .of_untouched (s.putStation_untouched _ _)
  unfold State.miss
  dsimp only
  split
  · exact hu
  · split <;> exact hu.trans (State.takeReport_keeps _ _ _)

theorem State.countFraming_untouched (g : SegmentNo) : Untouched s (s.countFraming g) := ⟨rfl, rfl, rfl⟩

theorem State.endPoll_untouched (g : SegmentNo) : Untouched s (s.endPoll g) := by
  unfold State.endPoll
  refine Untouched.trans ?_ (State.moveCursor_untouched _ _ _)
  exact ⟨rfl, rfl, rfl⟩

theorem reply_keeps (g : SegmentNo) (bytes : Vector Byte 4) : Keeps none s (reply s g bytes) := by
  unfold reply
  dsimp only
  split
  · exact .refl s
  · next p _ =>
    refine Keeps.trans ?_ (.of_untouched (State.endPoll_untouched _ _))
    refine Keeps.trans (.of_untouched (s.reach_untouched (p.opens + replyTime))) ?_
    split
    · exact State.goodReply_keeps _ _ _
    · exact (Keeps.of_untouched (State.countFraming_untouched _ _)).trans (State.miss_keeps _ _)

theorem replyWindowExpiry_keeps (g : SegmentNo) (received : Nat) : Keeps none s (replyWindowExpiry s g received) := by
  unfold replyWindowExpiry
  dsimp only
  split
  · exact .refl s
  · next p _ =>
    refine Keeps.trans ?_ (.of_untouched (State.endPoll_untouched _ _))
    refine Keeps.trans (.of_untouched (s.reach_untouched p.closes)) ?_
    refine Keeps.trans ?_ (State.miss_keeps _ _)
    split
    · exact .refl _
    · exact .of_untouched (State.countFraming_untouched _ _)

end Seats

/-! ## The light controller (R165 to R178) -/

section Lights
variable (s : State)

theorem sceneRequest_untouched (a : Args) : Untouched s (sceneRequest s a) := by
  unfold sceneRequest
  split <;> exact ⟨rfl, rfl, rfl⟩

theorem conversionComplete_untouched (sample : BitVec 10) : Untouched s (conversionComplete s sample) := by
  unfold conversionComplete
  split
  · exact ⟨rfl, rfl, rfl⟩
  · exact .refl s

theorem flashHalfPeriodExpiry_untouched : Untouched s (flashHalfPeriodExpiry s) := by
  unfold flashHalfPeriodExpiry
  split
  · exact ⟨rfl, rfl, rfl⟩
  · exact .refl s

theorem flashChange_untouched : Untouched s (flashChange s) := by
  unfold flashChange
  split
  · exact ⟨rfl, rfl, rfl⟩
  · exact .refl s

theorem safetyChange_untouched : Untouched s (safetyChange s) := by
  unfold safetyChange
  split
  · exact ⟨rfl, rfl, rfl⟩
  · exact .refl s

end Lights

/-! ## The ports (R182 to R200) -/

section Ports
variable {s : State}

theorem State.endClaim_untouched (s : State) (p : Port) : Untouched s (s.endClaim p) := by
  unfold State.endClaim
  split
  · exact ⟨rfl, rfl, rfl⟩
  · exact .refl s

theorem State.dropHoldings_keeps (s : State) (p : Port) : QueueKeeps s (s.dropHoldings p) := by
  have hu : QueueKeeps s (s.endClaim p) := .of_untouched (s.endClaim_untouched p)
  cases p with
  | crew => exact hu.trans (State.endLive_keeps _)
  | route => exact hu
  | fare => exact hu

theorem State.clearPort_keeps (s : State) (p : Port) : QueueKeeps s (s.clearPort p) :=
  (QueueKeeps.of_untouched (s.modPort_untouched p _)).trans (State.dropHoldings_keeps _ p)

theorem State.portReset_keeps (s : State) (p : Port) : QueueKeeps s (s.portReset p) :=
  (s.clearPort_keeps p).trans (.of_untouched ⟨rfl, rfl, rfl⟩)

theorem State.handOn_keeps (s : State) (p : Port) (k : RequestKind) : QueueKeeps s (s.handOn p k) := by
  unfold State.handOn
  split
  · exact .of_untouched ⟨rfl, rfl, rfl⟩
  · exact s.portReset_keeps p
  · exact .of_untouched (s.modPort_untouched p _)

theorem State.go_keeps (s : State) (p : Port) : QueueKeeps s (s.go p) := by
  unfold State.go
  split
  · exact .of_untouched (s.answer_untouched _ _ _)
  · split
    · exact s.handOn_keeps p _
    · exact .of_untouched (s.answer_untouched _ _ _)

theorem writeReqCode_keeps (s : State) (p : Port) (w : Word) : QueueKeeps s (writeReqCode p w s) := by
  have hu : QueueKeeps s (s.modPort p fun ps => { ps with reqCode := w.extractLsb' 0 6 }) :=
    .of_untouched (s.modPort_untouched p _)
  unfold writeReqCode
  dsimp only
  split
  · split
    · exact hu.trans (.of_untouched ⟨rfl, rfl, rfl⟩)
    · exact hu.trans (State.go_keeps _ p)
  · exact hu

theorem writeSetting_untouched (s : State) (n : Nat) (w : Word) : Untouched s (writeSetting s n w) := by
  unfold writeSetting
  dsimp only
  split <;> exact ⟨rfl, rfl, rfl⟩

theorem writeSceneWord_untouched (s : State) (n : Nat) (w : Word) : Untouched s (writeSceneWord s n w) := by
  unfold writeSceneWord
  split <;> exact ⟨rfl, rfl, rfl⟩

theorem writeLabel_keeps (s : State) (n : Nat) (w : Word) : Keeps none s (writeLabel s n w) := by
  unfold writeLabel
  split
  · exact State.alike_keeps rfl
  · exact .refl s

theorem writeTable_keeps (s : State) (t : Table) (n : Nat) (w : Word) : Keeps none s (writeTable s t n w) := by
  cases t with
  | settings => exact .of_untouched (writeSetting_untouched s n w)
  | shadow => exact .of_untouched ⟨rfl, rfl, rfl⟩
  | channels => exact writeLabel_keeps s n w
  | scenes => exact .of_untouched (writeSceneWord_untouched s n w)
  | active => exact .refl s
  | seats => exact .refl s
  | queue => exact .refl s
  | counters => exact .refl s
  | capture => exact .refl s

theorem tblDataWrite_keeps (s : State) (p : Port) (w : Word) : Keeps none s (tblDataWrite p w s) := by
  unfold tblDataWrite
  dsimp only
  refine Keeps.trans ?_ (.of_untouched (State.modPort_untouched _ _ _))
  split
  · exact writeTable_keeps s _ _ w
  · exact .refl s

theorem writeRegister_keeps (s : State) (p : Port) (n : BitVec 6) (w : Word) :
    Keeps none s (writeRegister p n w s) := by
  have modPort (f : PortState → PortState) : Keeps none s (s.modPort p f) := .of_untouched (s.modPort_untouched p f)
  unfold writeRegister
  split
  · exact modPort _
  · exact modPort _
  · exact modPort _
  · exact (writeReqCode_keeps s p w).keeps none
  · exact modPort _
  · exact modPort _
  · exact modPort _
  · exact modPort _
  · exact modPort _
  · exact modPort _
  · exact tblDataWrite_keeps s p w
  · exact .refl s

theorem transactionStart_untouched (s : State) (p : Port) (address : Option Byte) :
    Untouched s (transactionStart s p address) := by
  have hu := s.modPort_untouched p fun ps =>
    { ps with silent := false, transaction := addressed address, snapshot := none }.restartTimer s.now
  unfold transactionStart
  dsimp only
  split
  · exact hu.trans (State.raiseOthers_untouched _ _ _)
  · exact hu

theorem silenceTimerExpiry_keeps (s : State) (p : Port) : QueueKeeps s (silenceTimerExpiry s p) := by
  unfold silenceTimerExpiry
  split
  · dsimp only
    refine QueueKeeps.trans ?_ (.of_untouched (State.raiseOthers_untouched _ _ _))
    exact (QueueKeeps.of_untouched ((s.reach_untouched _).trans (State.modPort_untouched _ p _))).trans
      (State.dropHoldings_keeps _ p)
  · exact .refl s

theorem prstAssert_keeps (s : State) (p : Port) : QueueKeeps s (prstAssert s p) := by
  unfold prstAssert
  split
  · exact .refl s
  · exact (QueueKeeps.of_untouched (s.modPort_untouched p _)).trans (State.clearPort_keeps _ p)

theorem State.running_keeps {f : State → State} (h : Keeps none s (f s)) : Keeps none s (s.running f) := by
  unfold State.running
  split
  · exact .refl s
  · exact h

theorem prstRelease_keeps (s : State) (p : Port) : Keeps none s (prstRelease s p) := by
  unfold prstRelease
  split
  · exact (Keeps.of_untouched (s.modPort_untouched p _)).trans (State.running_keeps (.of_untouched ⟨rfl, rfl, rfl⟩))
  · exact .refl s

theorem resetRelease_untouched (s : State) : Untouched s (resetRelease s) := by
  unfold resetRelease
  split
  · exact ⟨rfl, rfl, rfl⟩
  · exact .refl s

theorem State.taking_keeps {p : Port} {k : RequestKind} {f : Args → State} (h : ∀ a, Keeps none s (f a)) :
    Keeps none s (s.taking p k f) :=
  s.taking_cases p k f _ (.refl s) fun a _ => h a

theorem State.written_keeps {p : Port} {n : BitVec 6} {f : State → State} (h : Keeps none s (f s)) :
    Keeps none s (s.written p n f) :=
  s.written_cases p n f _ (.refl s) fun _ => h.trans (.of_untouched (State.modPort_untouched _ p _))

theorem State.linked_keeps {p : Port} {t : State} (h : Keeps none s t) : Keeps none s (s.linked p t) :=
  s.linked_cases t p _ (.refl s) fun _ _ => h

/-- A word the transaction has reached, of those that set a port's own registers. -/
theorem State.register_keeps (s : State) (p : Port) (n : BitVec 6) (f : PortState → PortState) :
    Keeps none s (s.written p n fun s => s.modPort p f) :=
  State.written_keeps (.of_untouched (s.modPort_untouched p f))

end Ports

/-! ## Every command (R78, R84, R87, R104) -/

theorem Keeps.of_next {s t u : State} (hu : Keeps none s u)
    (h : (.next u : Host.Outcome State Fault Refusal) = .next t) : Keeps none s t := by
  cases h; exact hu

/-- Every command but the two that set the enabled set anew. -/
theorem exec_keeps {i : Instr} {s t : State} (hs : Orderly s) (hr : i ≠ .deviceReset) (hc : i ≠ .channelEnable)
    (h : exec i s = .next t) : Keeps none s t := by
  have still {u : State} (hu : Untouched s u) : Keeps none s u := .of_untouched hu
  cases i with
  | deviceReset => exact absurd rfl hr
  | channelEnable => exact absurd rfl hc
  | resetRelease => exact (still (resetRelease_untouched s)).of_next h
  | odometerPulse => exact (State.running_keeps (odometerPulse_keeps hs)).of_next h
  | fix => exact (State.taking_keeps fun a => fixRequest_keeps hs a).of_next h
  | fixTimerExpiry => exact (still (fixTimerExpiry_untouched s)).of_next h
  | speedWindowEnd => exact (State.running_keeps (still (speedWindowEnd_untouched s))).of_next h
  | claimShadow p => exact (State.taking_keeps fun a => still (claimShadowRequest_untouched s p a)).of_next h
  | releaseShadow p => exact (State.taking_keeps fun a => still (releaseShadowRequest_untouched s p a)).of_next h
  | switch p => exact (State.taking_keeps fun a => still (switchRequest_untouched s p a)).of_next h
  | cancelSwitch p => exact (State.taking_keeps fun a => still (cancelSwitchRequest_untouched s p a)).of_next h
  | readStart => exact (State.running_keeps (readStart_keeps hs)).of_next h
  | headerReadComplete bytes => exact (still (headerReadComplete_untouched s bytes)).of_next h
  | directoryFetchComplete bytes => exact (directoryFetchComplete_keeps hs bytes).of_next h
  | audioReadComplete bytes => exact (audioReadComplete_keeps s bytes).of_next h
  | blockBoundary => exact (State.running_keeps (blockBoundary_keeps hs)).of_next h
  | announce p => exact (State.taking_keeps fun a => (announceRequest_keeps s a p).keeps none).of_next h
  | cancel => exact (State.taking_keeps fun a => (cancelRequest_keeps s a).keeps none).of_next h
  | liveOn => exact (State.taking_keeps fun a => (liveOnRequest_keeps s a).keeps none).of_next h
  | liveOff => exact (State.taking_keeps fun a => (liveOffRequest_keeps s a).keeps none).of_next h
  | entryExpiryTimer id => exact ((entryExpiryTimer_keeps s id).keeps none).of_next h
  | liveTimerExpiry => exact ((liveTimerExpiry_keeps s).keeps none).of_next h
  | scene => exact (State.taking_keeps fun a => still (sceneRequest_untouched s a)).of_next h
  | deck => exact (State.taking_keeps fun a => deckRequest_keeps s a).of_next h
  | assign => exact (State.taking_keeps fun a => assignRequest_keeps s a).of_next h
  | release => exact (State.taking_keeps fun a => releaseRequest_keeps s a).of_next h
  | releaseAll => exact (State.taking_keeps fun a => releaseAllRequest_keeps s a).of_next h
  | clearCounters p => exact (State.written_keeps ((writeReqCode_keeps s p _).keeps none)).of_next h
  | clearCapture p =>
    exact (State.taking_keeps (f := clearCaptureRequest p s) fun a => still ⟨rfl, rfl, rfl⟩).of_next h
  | portReset p => exact (State.written_keeps ((writeReqCode_keeps s p _).keeps none)).of_next h
  | prstAssert p => exact ((prstAssert_keeps s p).keeps none).of_next h
  | prstRelease p => exact (prstRelease_keeps s p).of_next h
  | transactionStart o => exact (State.linked_keeps (still (transactionStart_untouched s o.port o.address))).of_next h
  | transactionEnd p => exact (State.linked_keeps (still (s.modPort_untouched p _))).of_next h
  | silenceTimerExpiry p => exact ((silenceTimerExpiry_keeps s p).keeps none).of_next h
  | registerWrite p reg w => exact (State.written_keeps (writeRegister_keeps s p reg w)).of_next h
  | noticesWrite p w => exact (s.register_keeps p 2 _).of_next h
  | noticeMaskWrite p w => exact (s.register_keeps p 3 _).of_next h
  | portStatusWrite p w => exact (s.register_keeps p 1 _).of_next h
  | tblSelectWrite p w => exact (s.register_keeps p 11 _).of_next h
  | tblDataRead p completed =>
    obtain rfl : s.linked p _ = t := Host.Outcome.next.inj h
    refine State.linked_keeps ?_
    split
    · exact still ⟨rfl, rfl, rfl⟩
    · exact .refl s
    · exact .refl s
    · exact .refl s
  | tblDataWrite p w => exact (State.written_keeps (tblDataWrite_keeps s p w)).of_next h
  | positionRead p =>
    obtain rfl : s.linked p _ = t := Host.Outcome.next.inj h
    refine State.linked_keeps ?_
    split
    · exact still (s.modPort_untouched p _)
    · exact .refl s
  | cycleStart g => exact (State.running_keeps (still (cycleStart_untouched s g))).of_next h
  | poll g => exact (State.running_keeps (still (poll_untouched s g))).of_next h
  | reply g bytes => exact (reply_keeps s g bytes).of_next h
  | replyWindowExpiry g received => exact (replyWindowExpiry_keeps s g received).of_next h
  | lockIndicatorExpiry seat => exact (still (lockIndicatorExpiry_untouched s seat)).of_next h
  | pwmPeriodStart => exact (State.running_keeps (f := pwmPeriodStart) (still ⟨rfl, rfl, rfl⟩)).of_next h
  | fadeStep => exact (State.running_keeps (f := fadeStep) (still ⟨rfl, rfl, rfl⟩)).of_next h
  | conversionStart => exact (State.running_keeps (f := conversionStart) (still ⟨rfl, rfl, rfl⟩)).of_next h
  | conversionComplete sample => exact (still (conversionComplete_untouched s sample)).of_next h
  | flashHalfPeriodExpiry => exact (still (flashHalfPeriodExpiry_untouched s)).of_next h
  | flashChange => exact (still (flashChange_untouched s)).of_next h
  | safetyChange => exact (still (safetyChange_untouched s)).of_next h

theorem exec_channelsLawful {i : Instr} {s t : State} (hq : Safety.Queue s) (hs : ChannelsLawful s)
    (h : exec i s = .next t) : ChannelsLawful t := by
  by_cases hr : i = .deviceReset
  · subst hr
    obtain rfl : deviceReset s = t := Host.Outcome.next.inj h
    exact deviceReset_lawful s
  · by_cases hc : i = .channelEnable
    · subst hc
      obtain rfl : s.taking .crew .channelEnable (channelEnableRequest s) = t := Host.Outcome.next.inj h
      exact s.taking_cases _ _ _ _ hs fun a _ => channelEnableRequest_lawful hs a
    · exact (exec_keeps (hs.orderly hq) hr hc h).channelsLawful hs

/-- Settles O55: an idle step changes no channel, and a command keeps the channels lawful. -/
theorem everyStepKeepsTheChannelsLawful : Obligations.EveryStepKeepsTheChannelsLawful := by
  intro s t hqueue hstacks hdisabled hoffers hhold hstep
  have hs : ChannelsLawful s := (channelsLawful_iff s).mpr ⟨hstacks, hdisabled, hoffers, hhold⟩
  refine (channelsLawful_iff t).mp ?_
  cases hp : s.pending with
  | nil =>
    obtain rfl : s.tick = t := by simpa [step, hp] using hstep
    exact (Keeps.of_untouched (s := s) (t := s.tick) ⟨rfl, rfl, rfl⟩).channelsLawful hs
  | cons i rest =>
    have hrest : Keeps none s { s with pending := rest } := .of_untouched ⟨rfl, rfl, rfl⟩
    refine exec_channelsLawful (i := i) (s := { s with pending := rest }) hqueue (hrest.channelsLawful hs) ?_
    simpa [step, hp] using hstep

end Sys2Proof.Machine

/-!
PROOFS. Every step keeps the census, the seats and the mirror (R76, R140, R151 to R155, R157 to R159, R162). Most work
is `Apart` from the seats: it moves nothing the three invariants speak of, and what the channel engine and the queue do
is such work (`Audio`). The rest writes a seat record, a station record, the enabled set, the deck channel or the wind,
and the roster follows with a recount of every census or a recomputation of every effective volume.
-/
namespace Sys2Proof.Machine

/-! ## Lawful seat records (R151 to R155, R162) -/

/-- What a seat record keeps: a locked seat has a language the FARE port assigned, a language has been assigned by
someone, and the volumes are in range and in step. -/
structure Seat.Fits (x : Seat) (r : Roster) (i : SeatNo) : Prop where
  locked : x.lock = true → x.language.isSome ∧ x.assignedBy = .fare
  assigned : x.assignedBy = .none ↔ x.language = none
  volume : x.volume ≤ 15
  effective : x.effective = effectiveVolume r i x.volume

theorem seats_iff (s : State) :
    Safety.Seats s ↔ s.roster.band = s.route.band ∧ ∀ i, (s.seat i).Fits s.roster i :=
  and_congr_right fun _ => forall_congr' fun _ =>
    ⟨fun ⟨locked, assigned, volume, effective⟩ => ⟨locked, assigned, volume, effective⟩,
      fun h => ⟨h.locked, h.assigned, h.volume, h.effective⟩⟩

/-- A set that is not empty has a member. -/
theorem exists_inSet {enabled : ChannelSet} (h : enabled ≠ 0) : ∃ c, inSet enabled c = true := by
  by_contra hnone
  refine h (BitVec.eq_of_getLsbD_eq fun k hk => ?_)
  have hk' : inSet enabled ⟨k, hk⟩ = false := Bool.eq_false_iff.mpr fun hc => hnone ⟨_, hc⟩
  simpa [inSet] using hk'

/-- With a channel enabled, a language step leads to a channel (R153). -/
theorem stepLanguage_isSome {enabled : ChannelSet} (h : enabled ≠ 0) (up : Bool) (language : Option ChannelNo) :
    (stepLanguage enabled up language).isSome := by
  obtain ⟨c, hc⟩ := exists_inSet h
  have found {order : List ChannelNo} (hm : c ∈ order) : order.find? (fun d => inSet enabled d) ≠ none :=
    fun hnone => List.find?_eq_none.mp hnone c hm hc
  unfold stepLanguage
  dsimp only
  split
  · rfl
  · next hnone =>
    cases language with
    | some d => rfl
    | none =>
      cases up with
      | true => exact absurd hnone (found (List.mem_finRange c))
      | false => exact absurd hnone (found (List.mem_reverse.mpr (List.mem_finRange c)))

theorem stepLanguages_isSome {enabled : ChannelSet} (h : enabled ≠ 0) (up : Bool) {n : Nat} (hn : n ≠ 0)
    (language : Option ChannelNo) : (stepLanguages enabled up n language).isSome := by
  induction n generalizing language with
  | zero => exact absurd rfl hn
  | succ n ih =>
    by_cases hzero : n = 0
    · subst hzero
      exact stepLanguage_isSome h up language
    · exact ih hzero _

namespace Seat

variable {x : Seat} {r : Roster} {i : SeatNo}

/-- Of the roster only the wind matters to a seat record. -/
theorem Fits.of_wind (h : x.Fits r i) {r' : Roster} (hband : r'.band = r.band) (htrims : r'.trims = r.trims) :
    x.Fits r' i :=
  ⟨h.locked, h.assigned, h.volume, by simp only [h.effective, effectiveVolume, hband, htrims]⟩

theorem Fits.languageSteps (h : x.Fits r i) (enabled : ChannelSet) (now : Nat) (steps : Int) :
    (x.languageSteps enabled now steps).Fits r i := by
  unfold Seat.languageSteps
  split
  · exact h
  · next hsteps =>
    split
    · exact ⟨h.locked, h.assigned, h.volume, h.effective⟩
    · next hlock =>
      split
      · exact h
      · next hset =>
        have hsome := stepLanguages_isSome hset (0 < steps) (Int.natAbs_ne_zero.mpr hsteps) x.language
        have assigned := Option.isSome_iff_ne_none.mp hsome
        exact ⟨fun hl => absurd hl hlock, ⟨nofun, fun hnone => absurd hnone assigned⟩, h.volume, h.effective⟩

/-- Language steps are no copies of the station's fields. -/
theorem languageSteps_copies (x : Seat) (enabled : ChannelSet) (now : Nat) (steps : Int) :
    (x.languageSteps enabled now steps).station = x.station
      ∧ (x.languageSteps enabled now steps).fault = x.fault := by
  unfold Seat.languageSteps
  split
  · exact ⟨rfl, rfl⟩
  · split
    · exact ⟨rfl, rfl⟩
    · split <;> exact ⟨rfl, rfl⟩

theorem volumeSteps_le (volume : Nat) (steps : Int) : volumeSteps volume steps ≤ 15 := by
  unfold volumeSteps; omega

/-- A report leaves a lawful seat record lawful (R150, R153, R155). -/
theorem Fits.afterReport (h : x.Fits r i) (now : Nat) (m : Report) : (x.afterReport r i now m).Fits r i := by
  have copied : Fits
      { x with station := m.station, plugged := m.plugged.getD x.plugged, fault := m.fault.getD x.fault } r i :=
    ⟨h.locked, h.assigned, h.volume, h.effective⟩
  have stepped := copied.languageSteps r.enabled now m.language
  unfold Seat.afterReport
  dsimp only
  split
  · exact stepped
  · exact ⟨stepped.locked, stepped.assigned, volumeSteps_le _ _, rfl⟩

/-- What a report copies stands in the record after it (R150). -/
theorem afterReport_copies (x : Seat) (r : Roster) (i : SeatNo) (now : Nat) (m : Report) :
    (x.afterReport r i now m).station = m.station
      ∧ (x.afterReport r i now m).fault = m.fault.getD x.fault := by
  unfold Seat.afterReport
  dsimp only
  split <;> exact languageSteps_copies _ _ _ _

theorem Fits.assign (h : x.Fits r i) (c : ChannelNo) (lock : Bool) (tag : Option (BitVec 32)) :
    (x.assigned c lock tag).Fits r i :=
  ⟨fun _ => ⟨rfl, rfl⟩, ⟨nofun, nofun⟩, h.volume, h.effective⟩

theorem Fits.free (h : x.Fits r i) : x.freed.Fits r i :=
  ⟨nofun, ⟨fun _ => rfl, fun _ => rfl⟩, h.volume, h.effective⟩

end Seat

/-! ## The three invariants and what leaves them alone -/

/-- The invariants of the statement. -/
structure SeatsLawful (s : State) : Prop where
  census : Safety.Census s
  seats : Safety.Seats s
  mirror : Safety.Mirror s

/-- Two seat records count alike in every census and mirror the same station. -/
structure Seat.CountsAlike (x y : Seat) : Prop where
  station : y.station = x.station
  plugged : y.plugged = x.plugged
  fault : y.fault = x.fault
  language : y.language = x.language

theorem Seat.CountsAlike.listens {x y : Seat} (h : x.CountsAlike y) (enabled : ChannelSet) (c : ChannelNo) :
    y.listens enabled c = x.listens enabled c := by
  simp only [Seat.listens, h.station, h.plugged, h.fault, h.language]

/-- From `s` to `t` nothing has moved that census, LISTENED and the mirror rest on. -/
structure Uncounted (s t : State) : Prop where
  seat : ∀ i, (s.seat i).CountsAlike (t.seat i)
  enabled : t.roster.enabled = s.roster.enabled
  census : t.roster.census = s.roster.census
  recorded : t.roster.listened = s.roster.listened
  rosterDeck : t.roster.deck = s.roster.deck
  station : ∀ i, (t.station i).state = (s.station i).state ∧ (t.station i).fault = (s.station i).fault
  deck : t.engine.deckChannel = s.engine.deckChannel
  listened : ∀ c, (t.channel c).listened = (s.channel c).listened

namespace Uncounted

variable {s t : State}

theorem count (h : Uncounted s t) (c : ChannelNo) : t.roster.count c = s.roster.count c := by
  have alike : t.roster.seats.toList.map (fun x => x.listens t.roster.enabled c)
      = s.roster.seats.toList.map fun x => x.listens s.roster.enabled c := by
    refine List.ext_getElem (by simp) fun k hk _ => ?_
    have hseat := (h.seat ⟨k, by simpa using hk⟩).listens s.roster.enabled c
    simpa [State.seat, h.enabled] using hseat
  have counted := congrArg (List.countP id) alike
  simpa [Roster.count, List.countP_map, Function.comp_def] using counted

theorem keeps_census (h : Uncounted s t) (hs : Safety.Census s) : Safety.Census t := by
  obtain ⟨hcount, hdeck⟩ := hs
  refine ⟨fun c => ?_, by rw [h.rosterDeck, h.deck, hdeck]⟩
  obtain ⟨census, recorded, listened⟩ := hcount c
  refine ⟨by rw [h.census, h.count, census], ?_, by rw [h.listened, h.recorded, listened]⟩
  simpa only [h.recorded, Roster.isListened, h.census, h.rosterDeck] using recorded

theorem keeps_mirror (h : Uncounted s t) (hs : Safety.Mirror s) : Safety.Mirror t := fun i => by
  obtain ⟨hstate, hfault⟩ := h.station i
  rw [(h.seat i).station, (h.seat i).fault, hstate, hfault]
  exact hs i

end Uncounted

/-- From `s` to `t` roster, speed band, deck channel and every channel's LISTENED stand as before. -/
structure RosterApart (s t : State) : Prop where
  roster : t.roster = s.roster
  band : t.route.band = s.route.band
  deck : t.engine.deckChannel = s.engine.deckChannel
  listened : ∀ c, (t.channel c).listened = (s.channel c).listened

/-- From `s` to `t` the part has worked apart from the seats: every station's state and FAULT stand as before, too. -/
structure Apart (s t : State) : Prop extends RosterApart s t where
  station : ∀ i, (t.station i).state = (s.station i).state ∧ (t.station i).fault = (s.station i).fault

section Apart
variable {s t u : State}

theorem RosterApart.trans (a : RosterApart s t) (b : RosterApart t u) : RosterApart s u :=
  ⟨b.roster.trans a.roster, b.band.trans a.band, b.deck.trans a.deck,
    fun c => (b.listened c).trans (a.listened c)⟩

/-- The channel engine has not worked at all. -/
theorem RosterApart.of_engine (hroster : t.roster = s.roster) (hband : t.route.band = s.route.band)
    (hengine : t.engine = s.engine) : RosterApart s t :=
  ⟨hroster, hband, by rw [hengine], fun c => by unfold State.channel; rw [hengine]⟩

theorem RosterApart.seat (h : RosterApart s t) (i : SeatNo) : t.seat i = s.seat i := by
  unfold State.seat; rw [h.roster]

theorem RosterApart.keeps_seats (h : RosterApart s t) (hs : Safety.Seats s) : Safety.Seats t := by
  unfold Safety.Seats State.seat at *
  rwa [h.roster, h.band]

theorem Apart.refl (s : State) : Apart s s := ⟨⟨rfl, rfl, rfl, fun _ => rfl⟩, fun _ => ⟨rfl, rfl⟩⟩

theorem Apart.trans (a : Apart s t) (b : Apart t u) : Apart s u :=
  ⟨a.toRosterApart.trans b.toRosterApart, fun i =>
    ⟨(b.station i).1.trans (a.station i).1, (b.station i).2.trans (a.station i).2⟩⟩

theorem RosterApart.of_stations (h : RosterApart s t) (hstations : t.bus.stations = s.bus.stations) : Apart s t :=
  ⟨h, fun i => by unfold State.station; rw [hstations]; exact ⟨rfl, rfl⟩⟩

theorem Apart.of_engine (hroster : t.roster = s.roster) (hband : t.route.band = s.route.band)
    (hengine : t.engine = s.engine) (hstations : t.bus.stations = s.bus.stations) : Apart s t :=
  (RosterApart.of_engine hroster hband hengine).of_stations hstations

theorem Apart.uncounted (h : Apart s t) : Uncounted s t where
  seat i := h.seat i ▸ ⟨rfl, rfl, rfl, rfl⟩
  enabled := by rw [h.roster]
  census := by rw [h.roster]
  recorded := by rw [h.roster]
  rosterDeck := by rw [h.roster]
  station := h.station
  deck := h.deck
  listened := h.listened

theorem Apart.lawful (h : Apart s t) (hs : SeatsLawful s) : SeatsLawful t :=
  ⟨h.uncounted.keeps_census hs.census, h.keeps_seats hs.seats, h.uncounted.keeps_mirror hs.mirror⟩

/-- Work on other blocks than roster and channel engine, on neither station nor band. -/
theorem SeatsLawful.still (hs : SeatsLawful s) (hroster : t.roster = s.roster) (hband : t.route.band = s.route.band)
    (hengine : t.engine = s.engine) (hstations : t.bus.stations = s.bus.stations) : SeatsLawful t :=
  (Apart.of_engine hroster hband hengine hstations).lawful hs

end Apart

/-- The channel engine and the queue work apart from the seats. -/
theorem Audio.apart {s t : State} (h : Audio s t) : Apart s t :=
  RosterApart.of_stations ⟨h.roster, by rw [h.route], by rw [← h.settings], h.listened⟩ (by rw [h.bus])

theorem State.answer_apart (s : State) (p : Port) (r : ResultCode) (d : Word) : Apart s (s.answer p r d) :=
  .of_engine rfl rfl rfl rfl

theorem State.modPort_apart (s : State) (p : Port) (f : PortState → PortState) : Apart s (s.modPort p f) :=
  .of_engine rfl rfl rfl rfl

/-- One channel's record changes and its LISTENED stands. -/
theorem State.modChannel_apart (s : State) {c : ChannelNo} {f : ChannelRec → ChannelRec}
    (hf : (f (s.channel c)).listened = (s.channel c).listened) : Apart s (s.modChannel c f) := by
  rw [← s.modChannel_channel_self c f] at hf
  have listened := (Only.modChannel s c f).forall_channel (R := fun ch ch' => ch'.listened = ch.listened)
    (fun _ => rfl) hf
  exact RosterApart.of_stations ⟨rfl, rfl, rfl, listened⟩ rfl

theorem SeatsLawful.taking {s : State} (hs : SeatsLawful s) {p : Port} {k : RequestKind} {f : Args → State}
    (h : ∀ a, SeatsLawful (f a)) : SeatsLawful (s.taking p k f) :=
  s.taking_cases p k f _ hs fun a _ => h a

theorem SeatsLawful.running {s : State} (hs : SeatsLawful s) {f : State → State} (h : SeatsLawful (f s)) :
    SeatsLawful (s.running f) := by
  unfold State.running
  split
  · exact hs
  · exact h

theorem SeatsLawful.written {s : State} (hs : SeatsLawful s) {p : Port} {n : BitVec 6} {f : State → State}
    (h : SeatsLawful (f s)) : SeatsLawful (s.written p n f) :=
  s.written_cases p n f _ hs fun _ => (State.modPort_apart _ p _).lawful h

theorem SeatsLawful.linked {s t : State} (hs : SeatsLawful s) {p : Port} (h : SeatsLawful t) :
    SeatsLawful (s.linked p t) :=
  s.linked_cases t p _ hs fun _ _ => h

/-! ## Recounts (R157, R158) -/

/-- The channel engine holds LISTENED and the deck channel as the roster does (R76, R159). -/
structure Handed (s : State) : Prop where
  listened : ∀ c, (s.channel c).listened = s.roster.listened[c]
  deck : s.roster.deck = s.engine.deckChannel

theorem Handed.of_apart {s t : State} (h : Handed s) (ha : RosterApart s t) : Handed t :=
  ⟨fun c => by rw [ha.listened, ha.roster, h.listened], by rw [ha.roster, ha.deck, h.deck]⟩

theorem SeatsLawful.handed {s : State} (hs : SeatsLawful s) : Handed s := by
  obtain ⟨hcount, hdeck⟩ := hs.census
  refine ⟨fun c => ?_, hdeck⟩
  obtain ⟨-, -, listened⟩ := hcount c
  exact listened

theorem SeatsLawful.counted {s : State} (hs : SeatsLawful s) (c : ChannelNo) :
    s.roster.census[c] = s.roster.count c := by
  obtain ⟨hcount, -⟩ := hs.census
  obtain ⟨census, -, -⟩ := hcount c
  exact census

/-- LISTENED judged from right censuses is right, in the roster and in the channel engine (R158, R76). -/
theorem Handed.judgeListened {s : State} (h : Handed s)
    (hc : ∀ c : ChannelNo, s.roster.census[c] = s.roster.count c) : Safety.Census s.judgeListened := by
  refine ⟨fun c => ⟨hc c, s.judgeListened_listened c, ?_⟩, h.deck⟩
  rw [s.judgeListened_listened, s.judgeListened_channel]
  split
  · next hsame => rw [h.listened, hsame]
  · exact ChannelRec.setListened_listened _ _

/-- Whatever has become of the seats and the enabled set, a recount sets the censuses right (R157). -/
theorem Handed.recount {s : State} (h : Handed s) : Safety.Census s.recount :=
  Handed.judgeListened (s := { s with roster := { s.roster with census := vtab fun c => s.roster.count c } })
    ⟨h.listened, h.deck⟩ fun c => vtab_get _ c.val c.isLt

/-- A recount moves no seat and no station. -/
theorem Handed.recount_seatsLawful {s : State} (h : Handed s) (hseats : Safety.Seats s) (hmirror : Safety.Mirror s) :
    SeatsLawful s.recount :=
  ⟨h.recount, hseats, hmirror⟩

/-- SEAT_EVENT moves the change count and the notices alone (R156). -/
theorem State.seatEvent_seatsLawful {s : State} (hs : SeatsLawful s) (changed : Bool) :
    SeatsLawful (s.seatEvent changed) := by
  cases changed with
  | false => exact hs
  | true =>
    have moved : SeatsLawful
        { s with roster := { s.roster with changeCount := (s.roster.changeCount + 1) % 256 } } :=
      ⟨hs.census, hs.seats, hs.mirror⟩
    exact (State.raise_audio _ .seatEvent).apart.lawful moved

/-- A seat's record is replaced by a lawful one that mirrors its station (R150, R157). -/
theorem State.putSeat_seatsLawful {s : State} (hh : Handed s) (hs : Safety.Seats s) {i : SeatNo} {y : Seat}
    (hy : y.Fits s.roster i) (hi : y.station = (s.station i).state ∧ y.fault = (s.station i).fault)
    (hm : ∀ j, i ≠ j → (s.seat j).station = (s.station j).state ∧ (s.seat j).fault = (s.station j).fault) :
    SeatsLawful (s.putSeat i y) := by
  obtain ⟨hband, hfits⟩ := (seats_iff s).mp hs
  unfold State.putSeat
  dsimp only
  generalize hu : ({ s with roster := { s.roster with seats := s.roster.seats.set i y } } : State) = u
  have hseat : ∀ j, u.seat j = if i = j then y else s.seat j := fun j => by
    subst hu
    simp only [State.seat, Fin.getElem_fin, Vector.getElem_set, Fin.ext_iff]
  have hu' : Handed u := by subst hu; exact ⟨hh.listened, hh.deck⟩
  refine State.seatEvent_seatsLawful (hu'.recount_seatsLawful ((seats_iff u).mpr ⟨?_, fun j => ?_⟩) fun j => ?_) _
  · subst hu; exact hband
  · rw [hseat]
    subst hu
    split
    · next hij => exact hij ▸ hy.of_wind rfl rfl
    · exact (hfits j).of_wind rfl rfl
  · rw [hseat]
    subst hu
    split
    · next hij => exact hij ▸ hi
    · next hij => exact hm j hij

/-- In a lawful roster a seat's record is replaced by a lawful one with the same copies of its station. -/
theorem SeatsLawful.putSeat {s : State} (hs : SeatsLawful s) {i : SeatNo} {y : Seat} (hy : y.Fits s.roster i)
    (hstation : y.station = (s.seat i).station) (hfault : y.fault = (s.seat i).fault) :
    SeatsLawful (s.putSeat i y) := by
  obtain ⟨station, fault⟩ := hs.mirror i
  exact State.putSeat_seatsLawful hs.handed hs.seats hy ⟨hstation.trans station, hfault.trans fault⟩
    fun j _ => hs.mirror j

theorem SeatsLawful.fits {s : State} (hs : SeatsLawful s) (i : SeatNo) : (s.seat i).Fits s.roster i := by
  obtain ⟨-, hfits⟩ := (seats_iff s).mp hs.seats
  exact hfits i

theorem SeatsLawful.band {s : State} (hs : SeatsLawful s) : s.roster.band = s.route.band := by
  obtain ⟨hband, -⟩ := hs.seats
  exact hband

/-! ## The roster's requests and the wind (R94, R151, R152, R154, R160 to R162) -/

section Requests
variable {s : State}

/-- The roster takes a new enabled set and recounts; the channel engine and the queue follow (R160, R161). -/
theorem channelEnableRequest_seatsLawful (hs : SeatsLawful s) (a : Args) :
    SeatsLawful (channelEnableRequest s a) := by
  have refused : SeatsLawful (s.answer .crew .badArgument 0) := (s.answer_apart _ _ _).lawful hs
  unfold channelEnableRequest
  dsimp only
  split
  · exact refused
  · generalize a.a0.extractLsb' 0 12 = set
    generalize hu : State.answer { s with roster := { s.roster with enabled := set } } .crew .ok 0 = u
    have hh : Handed u := by subst hu; exact ⟨hs.handed.listened, hs.handed.deck⟩
    have recounted : SeatsLawful u.recount := by
      subst hu
      exact hh.recount_seatsLawful hs.seats hs.mirror
    exact ((State.engineEnable_audio _ _).trans (State.queueDisable_audio _ _)).apart.lawful recounted

/-- DECK hands the new deck channel to the roster, which judges LISTENED from the censuses as they stand (R94, R159). -/
theorem deckRequest_seatsLawful (hs : SeatsLawful s) (a : Args) : SeatsLawful (deckRequest s a) := by
  have refused : SeatsLawful (s.answer .crew .badArgument 0) := (s.answer_apart _ _ _).lawful hs
  unfold deckRequest
  split
  · exact refused
  · next deck _ =>
    split
    · exact refused
    · generalize hu : ({ s with engine := _, roster := _ } : State) = u
      have hh : Handed u := by subst hu; exact ⟨hs.handed.listened, rfl⟩
      have judged : SeatsLawful u.judgeListened := by
        subst hu
        exact ⟨hh.judgeListened hs.counted, hs.seats, hs.mirror⟩
      exact (State.answer_apart _ _ _ _).lawful judged

theorem assignRequest_seatsLawful (hs : SeatsLawful s) (a : Args) : SeatsLawful (assignRequest s a) := by
  have refused : SeatsLawful (s.answer .fare .badArgument 0) := (s.answer_apart _ _ _).lawful hs
  unfold assignRequest
  dsimp only
  split
  · split
    · exact refused
    · split
      · exact refused
      · split
        · exact refused
        · exact (State.answer_apart _ _ _ _).lawful (hs.putSeat ((hs.fits _).assign _ _ _) rfl rfl)
  · exact refused

theorem releaseRequest_seatsLawful (hs : SeatsLawful s) (a : Args) : SeatsLawful (releaseRequest s a) := by
  unfold releaseRequest
  split
  · exact (State.answer_apart _ _ _ _).lawful (hs.putSeat (hs.fits _).free rfl rfl)
  · exact (s.answer_apart _ _ _).lawful hs

theorem releaseAllRequest_seatsLawful (hs : SeatsLawful s) (a : Args) : SeatsLawful (releaseAllRequest s a) := by
  unfold releaseAllRequest
  dsimp only
  generalize hu : ({ s with roster := { s.roster with seats := vmap Seat.freed s.roster.seats } } : State) = u
  have hseat : ∀ i, u.seat i = (s.seat i).freed := fun i => by subst hu; exact vmap_get _ _ i.val i.isLt
  have hh : Handed u := by subst hu; exact ⟨hs.handed.listened, hs.handed.deck⟩
  have recounted : SeatsLawful u.recount := by
    refine hh.recount_seatsLawful ((seats_iff u).mpr ⟨?_, fun i => ?_⟩) fun i => ?_
    · subst hu; exact hs.band
    · rw [hseat]
      subst hu
      exact (hs.fits i).free.of_wind rfl rfl
    · rw [hseat]
      subst hu
      exact hs.mirror i
  exact (State.answer_apart _ _ _ _).lawful (State.seatEvent_seatsLawful recounted _)

theorem lockIndicatorExpiry_seatsLawful (hs : SeatsLawful s) (i : SeatNo) : SeatsLawful (lockIndicatorExpiry s i) := by
  unfold lockIndicatorExpiry
  split
  · next n _ =>
    dsimp only
    generalize hu : ({ s.reach n with roster := _ } : State) = u
    have hseat : ∀ j, ∃ timer, u.seat j = { s.seat j with lockTimer := timer } := fun j => by
      subst hu
      unfold State.seat
      rw [Fin.getElem_fin, vmod_get]
      split
      · exact ⟨none, rfl⟩
      · exact ⟨_, rfl⟩
    have hu' : Uncounted s u := by
      subst hu
      refine ⟨fun j => ?_, rfl, rfl, rfl, rfl, fun _ => ⟨rfl, rfl⟩, rfl, fun _ => rfl⟩
      obtain ⟨timer, hj⟩ := hseat j
      exact hj ▸ ⟨rfl, rfl, rfl, rfl⟩
    refine ⟨hu'.keeps_census hs.census, (seats_iff u).mpr ⟨?_, fun j => ?_⟩, hu'.keeps_mirror hs.mirror⟩
    · subst hu; exact hs.band
    · obtain ⟨timer, hj⟩ := hseat j
      have hfits := hs.fits j
      rw [hj]
      have timed : Seat.Fits { s.seat j with lockTimer := timer } s.roster j :=
        ⟨hfits.locked, hfits.assigned, hfits.volume, hfits.effective⟩
      subst hu
      exact timed.of_wind rfl rfl
  · exact hs

/-- The route counter and the wind change, and every effective volume is recomputed (R162). -/
def State.withWind (s : State) (route : RouteCounter) (band : Fin 4) (trims : Vector Nat 4) : State :=
  { s with route := route, roster := { s.roster with band := band, trims := trims }.recomputeVolumes }

theorem State.withWind_seat (s : State) (route : RouteCounter) (band : Fin 4) (trims : Vector Nat 4) (i : SeatNo) :
    (s.withWind route band trims).seat i
      = { s.seat i with
          effective := effectiveVolume (s.withWind route band trims).roster i (s.seat i).volume } :=
  vmapIdx_get _ _ i.val i.isLt

theorem SeatsLawful.withWind (hs : SeatsLawful s) {route : RouteCounter} {band : Fin 4} (hband : band = route.band)
    (trims : Vector Nat 4) : SeatsLawful (s.withWind route band trims) := by
  have hu : Uncounted s (s.withWind route band trims) :=
    ⟨fun i => s.withWind_seat route band trims i ▸ ⟨rfl, rfl, rfl, rfl⟩, rfl, rfl, rfl, rfl,
      fun _ => ⟨rfl, rfl⟩, rfl, fun _ => rfl⟩
  refine ⟨hu.keeps_census hs.census, (seats_iff _).mpr ⟨hband, fun i => ?_⟩, hu.keeps_mirror hs.mirror⟩
  have hfits := hs.fits i
  rw [s.withWind_seat]
  exact ⟨hfits.locked, hfits.assigned, hfits.volume, rfl⟩

/-- A speed window that ends hands a changed band to the roster (R8, R162). -/
theorem speedWindowEnd_seatsLawful (hs : SeatsLawful s) : SeatsLawful (speedWindowEnd s) := by
  unfold speedWindowEnd
  dsimp only
  split
  · have reached : SeatsLawful (s.reach s.route.windowEnd) := hs.still rfl rfl rfl rfl
    exact reached.withWind rfl _
  · next hsame =>
    exact hs.still rfl (Decidable.of_not_not hsame) rfl rfl

theorem State.writeTrim_seatsLawful (hs : SeatsLawful s) (b : Fin 4) (v : Nat) : SeatsLawful (s.writeTrim b v) :=
  hs.withWind (route := s.route) hs.band (s.roster.trims.set b v)

end Requests

/-! ## Reports, misses and the poll cycle (R131 to R142, R150) -/

section Reports
variable {s : State}

theorem State.putStation_rosterApart (s : State) (i : SeatNo) (y : Station) : RosterApart s (s.putStation i y) := by
  have replaced : RosterApart s (s.modStation i fun _ => y) := .of_engine rfl rfl rfl
  unfold State.putStation
  dsimp only
  split
  · exact replaced
  · exact replaced.trans (State.raise_audio _ _).apart.toRosterApart

theorem State.putStation_station (s : State) (i j : SeatNo) (y : Station) :
    (s.putStation i y).station j = if i = j then y else s.station j := by
  have replaced : (s.modStation i fun _ => y).station j = if i = j then y else s.station j := by
    split
    · next hij => rw [← hij, State.modStation_station_self]
    · next hij => exact State.modStation_station_ne _ _ _ _ (Ne.symm hij)
  unfold State.putStation
  dsimp only
  split <;> exact replaced

/-- A station's record is replaced and its seat takes the report of it (R140, R150). -/
theorem SeatsLawful.report (hs : SeatsLawful s) {i : SeatNo} {y : Station} {m : Report} (hstate : m.station = y.state)
    (hfault : m.fault.getD (s.seat i).fault = y.fault) : SeatsLawful ((s.putStation i y).takeReport i m) := by
  have ha := s.putStation_rosterApart i y
  have hstation := s.putStation_station i
  obtain ⟨station, fault⟩ := ((s.putStation i y).seat i).afterReport_copies (s.putStation i y).roster i
    (s.putStation i y).now m
  refine State.putSeat_seatsLawful (hs.handed.of_apart ha) (ha.keeps_seats hs.seats) ?_ ?_ fun j hij => ?_
  · rw [ha.seat, ha.roster]
    exact (hs.fits i).afterReport _ m
  · rw [station, fault, ha.seat, hstation, if_pos rfl]
    exact ⟨hstate, hfault⟩
  · rw [ha.seat, hstation, if_neg hij]
    exact hs.mirror j

/-- A station's record is replaced by one of the same state and FAULT. -/
theorem State.putStation_apart {i : SeatNo} {y : Station} (hstate : y.state = (s.station i).state)
    (hfault : y.fault = (s.station i).fault) : Apart s (s.putStation i y) := by
  refine ⟨s.putStation_rosterApart i y, fun j => ?_⟩
  rw [State.putStation_station]
  split
  · next hij => exact hij ▸ ⟨hstate, hfault⟩
  · exact ⟨rfl, rfl⟩

theorem Station.goodReply_fault (x : Station) (m : Reply) : (x.goodReply m).1.fault = m.fault := by
  unfold Station.goodReply
  split <;> rfl

theorem State.goodReply_seatsLawful (hs : SeatsLawful s) (i : SeatNo) (m : Reply) : SeatsLawful (s.goodReply i m) :=
  hs.report rfl ((s.station i).goodReply_fault m).symm

/-- A miss clears FAULT where the station becomes ABSENT, and leaves it elsewhere (R136, R137). -/
theorem Station.missed_fault (x : Station) :
    x.missed.fault = if x.state ≠ x.missed.state ∧ x.missed.state = .absent then false else x.fault := by
  obtain ⟨state, misses, baseline, fault⟩ := x
  cases state with
  | absent => simp [Station.missed]
  | joining => simp [Station.missed, Station.gone]
  | present => by_cases h : misses + 1 < 3 <;> simp [Station.missed, h]
  | lost => by_cases h : misses + 1 < 32 <;> simp [Station.missed, Station.gone, h]

theorem State.miss_seatsLawful (hs : SeatsLawful s) (i : SeatNo) : SeatsLawful (s.miss i) := by
  have hfault := (s.station i).missed_fault
  obtain ⟨-, mirrored⟩ := hs.mirror i
  unfold State.miss
  dsimp only
  split
  · next hsame => exact (State.putStation_apart hsame.symm (by simpa [hsame] using hfault)).lawful hs
  · next hmoved =>
    split
    · next habsent => exact hs.report habsent.symm (by rw [hfault, if_pos ⟨hmoved, habsent⟩]; rfl)
    · next hthere => exact hs.report rfl (by simp [hfault, hthere, mirrored])

theorem State.moveCursor_apart (s : State) (g : SegmentNo) (n : Nat) : Apart s (s.moveCursor g n) := by
  unfold State.moveCursor
  split <;> exact .of_engine rfl rfl rfl rfl

theorem cycleStart_apart (s : State) (g : SegmentNo) : Apart s (cycleStart g s) := by
  unfold cycleStart
  dsimp only
  split
  · exact .refl s
  · refine Apart.trans ?_ (State.moveCursor_apart _ _ _)
    exact .of_engine rfl rfl rfl rfl

theorem poll_apart (s : State) (g : SegmentNo) : Apart s (poll g s) := by
  unfold poll
  dsimp only
  split
  · exact .of_engine rfl rfl rfl rfl
  · exact .refl s

theorem State.endPoll_apart (s : State) (g : SegmentNo) : Apart s (s.endPoll g) := by
  unfold State.endPoll
  refine Apart.trans ?_ (State.moveCursor_apart _ _ _)
  exact .of_engine rfl rfl rfl rfl

theorem reply_seatsLawful (hs : SeatsLawful s) (g : SegmentNo) (bytes : Vector Byte 4) :
    SeatsLawful (reply s g bytes) := by
  unfold reply
  dsimp only
  split
  · exact hs
  · next p _ =>
    have reached : SeatsLawful (s.reach (p.opens + replyTime)) := hs.still rfl rfl rfl rfl
    refine (State.endPoll_apart _ g).lawful ?_
    split
    · exact State.goodReply_seatsLawful reached _ _
    · refine State.miss_seatsLawful ?_ _
      exact reached.still rfl rfl rfl rfl

theorem replyWindowExpiry_seatsLawful (hs : SeatsLawful s) (g : SegmentNo) (received : Nat) :
    SeatsLawful (replyWindowExpiry s g received) := by
  unfold replyWindowExpiry
  dsimp only
  split
  · exact hs
  · next p _ =>
    have reached : SeatsLawful (s.reach p.closes) := hs.still rfl rfl rfl rfl
    refine (State.endPoll_apart _ g).lawful (State.miss_seatsLawful ?_ _)
    split
    · exact reached
    · exact reached.still rfl rfl rfl rfl

end Reports

/-! ## Metres walked and cues fired (R5, R9 to R15, R29, R33, R35) -/

section Route
variable (s : State)

theorem State.fireCue_apart (q : CueSlot) (trip : Nat) : Apart s (s.fireCue q trip) := by
  unfold State.fireCue
  split
  · split
    · exact (s.takeCommentaryCue_audio _ _).apart
    · exact s.cueDropped_audio.apart
  · exact (s.takeQuietCue_audio _).apart
  · split
    · exact s.cueDropped_audio.apart
    · exact (s.takeAnnounceCue_audio _ _).apart
  · exact .of_engine rfl rfl rfl rfl
  · exact .of_engine rfl rfl rfl rfl
  · exact .refl s

theorem fireThrough_apart (n q trip : Nat) : Apart s (fireThrough n s q trip) := by
  induction n generalizing s with
  | zero => exact .refl s
  | succ n ih =>
    unfold fireThrough
    dsimp only
    split
    · next slot _ =>
      split
      · have pointed : Apart s { s with script := { s.script with pointer := s.script.pointer + 1 } } :=
          .of_engine rfl rfl rfl rfl
        exact (pointed.trans (State.fireCue_apart _ slot trip)).trans (ih _)
      · exact .refl s
    · exact .refl s

theorem State.judgeLate_apart : Apart s s.judgeLate := by
  unfold State.judgeLate
  split
  · split
    · exact .of_engine rfl rfl rfl rfl
    · exact .refl s
  · exact .refl s

theorem State.offer_apart (wrapped : Bool) (trip : Nat) : Apart s (s.offer wrapped trip) := by
  unfold State.offer
  split
  · have pointed : Apart s { s with script := { s.script with pointer := 0 } } := .of_engine rfl rfl rfl rfl
    exact (pointed.trans (fireThrough_apart _ _ 0 trip)).trans (State.judgeLate_apart _)
  · exact fireThrough_apart s _ _ trip

theorem RouteCounter.forward_band (r : RouteCounter) : r.forward.band = r.band := by
  unfold RouteCounter.forward; split <;> rfl

theorem RouteCounter.rebase_band (r : RouteCounter) (loopLength : Nat) : (r.rebase loopLength).band = r.band := by
  unfold RouteCounter.rebase; split <;> rfl

theorem walkSilent_band (n : Nat) (r : RouteCounter) : (walkSilent n r).band = r.band := by
  induction n generalizing r with
  | zero => rfl
  | succ n ih => exact (ih r.forward).trans r.forward_band

theorem State.executeSwitch_apart : Apart s s.executeSwitch := .of_engine rfl (s.route.rebase_band _) rfl rfl

theorem State.odometerAdvance_apart : Apart s s.odometerAdvance := by
  unfold State.odometerAdvance
  dsimp only
  generalize ht : ({ s with route := _ } : State) = t
  have moved : Apart s t := by subst ht; exact .of_engine rfl s.route.forward_band rfl rfl
  have judged := moved.trans t.judgeTrip_audio.apart
  generalize t.judgeTrip = u at judged ⊢
  have offered := judged.trans (u.offer_apart s.route.wraps u.route.trip)
  generalize u.offer s.route.wraps u.route.trip = v at offered ⊢
  split
  · exact (offered.trans v.executeSwitch_apart).trans (.of_engine rfl rfl rfl rfl)
  · exact offered

theorem odometerPulse_apart : Apart s (odometerPulse s) := by
  unfold odometerPulse
  split
  · exact .of_engine rfl rfl rfl rfl
  · have cleared : Apart s { s with route := { s.route with prescaler := 0 } } := .of_engine rfl rfl rfl rfl
    exact cleared.trans (State.odometerAdvance_apart _)

theorem State.walkStep_apart (trip : Nat) : Apart s (s.walkStep trip) := by
  have moved : Apart s { s with route := s.route.forward } := .of_engine rfl s.route.forward_band rfl rfl
  exact moved.trans (State.offer_apart _ _ _)

theorem catchUp_apart (n trip : Nat) : Apart s (catchUp n s trip) := by
  induction n generalizing s trip with
  | zero => exact .refl s
  | succ n ih =>
    have walked := s.walkStep_apart (tripAdd trip 1)
    unfold catchUp
    dsimp only
    generalize s.walkStep (tripAdd trip 1) = t at walked ⊢
    split
    · exact (walked.trans t.executeSwitch_apart).trans (.of_engine rfl (walkSilent_band n _) rfl rfl)
    · exact walked.trans (ih t _)

theorem State.freshFix_apart : Apart s s.freshFix := by
  unfold State.freshFix
  dsimp only
  split <;> exact .of_engine rfl rfl rfl rfl

theorem State.moveTo_apart (q : Nat) : Apart s (s.moveTo q) := by
  unfold State.moveTo
  dsimp only
  split
  · exact .refl s
  · split
    · generalize ht : ({ s with route := _ } : State) = t
      have moved : Apart s t := by subst ht; exact .of_engine rfl rfl rfl rfl
      exact (moved.trans t.judgeTrip_audio.apart).trans (catchUp_apart _ _ _)
    · exact .of_engine rfl rfl rfl rfl

theorem State.applyLap_apart (lap : Option Nat) : Apart s (s.applyLap lap) := by
  cases lap <;> exact .of_engine rfl rfl rfl rfl

theorem fixRequest_apart (a : Args) : Apart s (fixRequest s a) := by
  unfold fixRequest
  split
  · exact .of_engine rfl rfl rfl rfl
  · split
    · exact .of_engine rfl rfl rfl rfl
    · exact ((s.freshFix_apart.trans (State.moveTo_apart _ _)).trans (State.applyLap_apart _ _)).trans
        (State.answer_apart _ _ _ _)

theorem fixTimerExpiry_apart : Apart s (fixTimerExpiry s) := by
  unfold fixTimerExpiry
  split <;> exact .of_engine rfl rfl rfl rfl

end Route

/-! ## The script unit's requests (R22 to R30) -/

section Script
variable (s : State) (p : Port) (a : Args)

theorem claimShadowRequest_apart : Apart s (claimShadowRequest p s a) := by
  unfold claimShadowRequest
  split <;> exact .of_engine rfl rfl rfl rfl

theorem releaseShadowRequest_apart : Apart s (releaseShadowRequest p s a) := by
  unfold releaseShadowRequest
  split <;> exact .of_engine rfl rfl rfl rfl

theorem switchRequest_apart : Apart s (switchRequest p s a) := by
  unfold switchRequest
  split
  · exact .of_engine rfl rfl rfl rfl
  · split
    · exact .of_engine rfl rfl rfl rfl
    · dsimp only
      split
      · exact .of_engine rfl rfl rfl rfl
      · split <;> exact .of_engine rfl rfl rfl rfl

theorem cancelSwitchRequest_apart : Apart s (cancelSwitchRequest p s a) := by
  unfold cancelSwitchRequest
  split
  · exact .of_engine rfl rfl rfl rfl
  · split <;> exact .of_engine rfl rfl rfl rfl

end Script

/-! ## The store reader and the block boundary (R55 to R63, R70) -/

section Store
variable (s : State)

/-- A read starts for a channel, whose LISTENED it leaves. -/
theorem State.startFor_apart (c : ChannelNo) : Apart s (s.startFor c) := by
  have began (r : StoreReader) : Apart s { s with reader := r } := .of_engine rfl rfl rfl rfl
  unfold State.startFor
  dsimp only
  split
  · exact (began _).trans (State.modChannel_apart _ rfl)
  · split
    · exact (began _).trans (State.modChannel_apart _ (ChannelRec.setBuf_kept _ _ _).1)
    · exact .refl s

theorem readStart_apart : Apart s (readStart s) := by
  unfold readStart
  split
  · exact .refl s
  · split
    · exact s.startFor_apart _
    · exact .refl s

theorem headerReadComplete_apart (bytes : Vector Byte 64) : Apart s (headerReadComplete s bytes) := by
  unfold headerReadComplete
  split
  · split <;> exact .of_engine rfl rfl rfl rfl
  · exact .refl s

theorem State.readDone_apart (r : Read) : Apart s (s.readDone r) := .of_engine rfl rfl rfl rfl

theorem directoryFetchComplete_apart (bytes : Vector Byte 64) : Apart s (directoryFetchComplete s bytes) := by
  unfold directoryFetchComplete
  split
  · next r _ =>
    have done := s.readDone_apart r
    split
    · dsimp only
      split
      · exact done.trans (State.takeRecord_audio _ _ _).apart
      · exact done
      · exact done
    · exact .refl s
    · exact .refl s
  · exact .refl s

theorem ChannelRec.audioArrived_listened (ch : ChannelRec) (n : BufName) (tag : Tag) (data : List Byte) :
    (ch.audioArrived n tag data).listened = ch.listened := by
  unfold ChannelRec.audioArrived
  split <;> exact (ChannelRec.setBuf_kept _ _ _).1

theorem audioReadComplete_apart (bytes : Vector Byte 512) : Apart s (audioReadComplete s bytes) := by
  unfold audioReadComplete
  split
  · next r _ =>
    split
    · exact (s.readDone_apart r).trans (State.modChannel_apart _ (ChannelRec.audioArrived_listened _ _ _ _))
    · exact .refl s
    · exact .refl s
  · exact .refl s

theorem blockBoundary_apart : Apart s (blockBoundary s) := by
  have reached : Apart s (s.reach s.engine.nextBoundary) := .of_engine rfl rfl rfl rfl
  have settled := reached.trans (Audio.forChannels _ _ State.settleChannel_audio).apart
  unfold blockBoundary
  dsimp only
  generalize State.forChannels _ _ = t at settled ⊢
  exact settled.trans ⟨⟨rfl, rfl, rfl, fun _ => rfl⟩, fun _ => ⟨rfl, rfl⟩⟩

end Store

/-! ## The queue's requests and timers (R106 to R118, R124) -/

section Queue
variable (s : State) (a : Args)

theorem announceRequest_apart (p : Port) : Apart s (announceRequest p s a) := by
  have answered (r : ResultCode) : Apart s (s.answer p r 0) := s.answer_apart p r 0
  unfold announceRequest
  split
  · exact answered _
  · split
    · exact answered _
    · split
      · exact answered _
      · split
        · exact answered _
        · split
          · exact answered _
          · split
            · exact answered _
            · split
              · exact answered _
              · exact ((s.addEntry_audio _).trans (State.judgeTrip_audio _)).apart.trans (State.answer_apart _ _ _ _)

theorem cancelRequest_apart : Apart s (cancelRequest s a) := by
  unfold cancelRequest
  dsimp only
  split
  · exact .of_engine rfl rfl rfl rfl
  · split
    · exact .of_engine rfl rfl rfl rfl
    · exact (s.cancelEntry_audio _).apart.trans (State.answer_apart _ _ _ _)

theorem liveOnRequest_apart : Apart s (liveOnRequest s a) := by
  have answered (r : ResultCode) : Apart s (s.answer .crew r 0) := s.answer_apart .crew r 0
  unfold liveOnRequest
  split
  · exact answered _
  · split
    · exact answered _
    · split
      · exact answered _
      · split
        · exact answered _
        · split
          · exact answered _
          · have timed : Apart s
                { s with queue := { s.queue with liveTimer := some (s.now + s.queue.liveLimit * second) } } :=
              .of_engine rfl rfl rfl rfl
            exact (timed.trans (State.addEntry_audio _ _).apart).trans (State.answer_apart _ _ _ _)

theorem liveOffRequest_apart : Apart s (liveOffRequest s a) := by
  unfold liveOffRequest
  split
  · exact .of_engine rfl rfl rfl rfl
  · exact s.endLive_audio.apart.trans (State.answer_apart _ _ _ _)

theorem liveTimerExpiry_apart : Apart s (liveTimerExpiry s) := by
  unfold liveTimerExpiry
  split
  · refine Apart.trans ?_ (State.endLive_audio _).apart
    exact .of_engine rfl rfl rfl rfl
  · exact .refl s

theorem entryExpiryTimer_apart (id : Nat) : Apart s (entryExpiryTimer s id) := by
  unfold entryExpiryTimer
  split
  · split
    · next n _ =>
      have reached : Apart s (s.reach n) := .of_engine rfl rfl rfl rfl
      exact reached.trans (State.takeExpiry_audio _ id).apart
    · exact .refl s
  · exact .refl s

end Queue

/-! ## The light controller (R165 to R178) -/

section Lights
variable (s : State)

theorem sceneRequest_apart (a : Args) : Apart s (sceneRequest s a) := by
  unfold sceneRequest
  split <;> exact .of_engine rfl rfl rfl rfl

theorem conversionComplete_apart (sample : BitVec 10) : Apart s (conversionComplete s sample) := by
  unfold conversionComplete
  split <;> exact .of_engine rfl rfl rfl rfl

theorem flashHalfPeriodExpiry_apart : Apart s (flashHalfPeriodExpiry s) := by
  unfold flashHalfPeriodExpiry
  split <;> exact .of_engine rfl rfl rfl rfl

theorem flashChange_apart : Apart s (flashChange s) := by
  unfold flashChange
  split <;> exact .of_engine rfl rfl rfl rfl

theorem safetyChange_apart : Apart s (safetyChange s) := by
  unfold safetyChange
  split <;> exact .of_engine rfl rfl rfl rfl

end Lights

/-! ## The ports (R182 to R200) -/

section Ports
variable (s : State) (p : Port)

theorem State.raiseOthers_apart (n : Notice) : Apart s (s.raiseOthers p n) := by
  cases p <;> exact .of_engine rfl rfl rfl rfl

theorem State.endClaim_apart : Apart s (s.endClaim p) := by
  unfold State.endClaim
  split <;> exact .of_engine rfl rfl rfl rfl

/-- The claim ends, and the LIVE entry with CREW; neither is the seats' (R194, R196). -/
theorem State.dropHoldings_apart : Apart s (s.dropHoldings p) := by
  have ended := s.endClaim_apart p
  cases p with
  | crew => exact ended.trans (State.endLive_audio _).apart
  | route => exact ended
  | fare => exact ended

theorem State.clearPort_apart : Apart s (s.clearPort p) :=
  (s.modPort_apart p _).trans (State.dropHoldings_apart _ p)

theorem State.handOn_apart (k : RequestKind) : Apart s (s.handOn p k) := by
  unfold State.handOn
  split
  · exact .of_engine rfl rfl rfl rfl
  · exact (s.clearPort_apart p).trans (.of_engine rfl rfl rfl rfl)
  · exact s.modPort_apart p _

theorem State.go_apart : Apart s (s.go p) := by
  unfold State.go
  split
  · exact .of_engine rfl rfl rfl rfl
  · split
    · exact s.handOn_apart p _
    · exact .of_engine rfl rfl rfl rfl

theorem writeReqCode_apart (w : Word) : Apart s (writeReqCode p w s) := by
  have coded := s.modPort_apart p fun ps => { ps with reqCode := w.extractLsb' 0 6 }
  unfold writeReqCode
  dsimp only
  split
  · split
    · exact coded.trans (.of_engine rfl rfl rfl rfl)
    · exact coded.trans (State.go_apart _ p)
  · exact coded

theorem transactionStart_apart (address : Option Byte) : Apart s (transactionStart s p address) := by
  have begun := s.modPort_apart p fun ps =>
    { ps with silent := false, transaction := addressed address, snapshot := none }.restartTimer s.now
  unfold transactionStart
  dsimp only
  split
  · exact begun.trans (State.raiseOthers_apart _ p _)
  · exact begun

theorem silenceTimerExpiry_apart : Apart s (silenceTimerExpiry s p) := by
  unfold silenceTimerExpiry
  split
  · refine Apart.trans ?_ (State.raiseOthers_apart _ p _)
    refine Apart.trans ?_ (State.dropHoldings_apart _ p)
    exact .of_engine rfl rfl rfl rfl
  · exact .refl s

theorem prstAssert_apart : Apart s (prstAssert s p) := by
  unfold prstAssert
  split
  · exact .refl s
  · exact (s.modPort_apart p _).trans (State.clearPort_apart _ p)

theorem prstRelease_apart : Apart s (prstRelease s p) := by
  unfold prstRelease State.running
  split
  · split <;> exact .of_engine rfl rfl rfl rfl
  · exact .refl s

theorem resetRelease_apart : Apart s (resetRelease s) := by
  unfold resetRelease
  split <;> exact .of_engine rfl rfl rfl rfl

end Ports

/-! ## Table writes (R68, R162, R189, R191) -/

section Tables
variable {s : State}

/-- Of the settings only the four trims are the roster's (R163, R191). -/
theorem writeSetting_seatsLawful (hs : SeatsLawful s) (n : Nat) (w : Word) : SeatsLawful (writeSetting s n w) := by
  unfold writeSetting
  dsimp only
  split
  case h_9 | h_10 | h_11 | h_12 => exact State.writeTrim_seatsLawful hs _ _
  case h_4 | h_5 | h_7 =>
    exact Apart.lawful (s := s) ⟨⟨rfl, rfl, rfl, fun _ => rfl⟩, fun _ => ⟨rfl, rfl⟩⟩ hs
  all_goals exact hs.still rfl rfl rfl rfl

theorem writeTable_seatsLawful (hs : SeatsLawful s) (t : Table) (n : Nat) (w : Word) :
    SeatsLawful (writeTable s t n w) := by
  cases t with
  | settings => exact writeSetting_seatsLawful hs n w
  | shadow => exact hs.still rfl rfl rfl rfl
  | channels =>
    show SeatsLawful (writeLabel s n w)
    unfold writeLabel
    split
    · exact (s.modChannel_apart rfl).lawful hs
    · exact hs
  | scenes =>
    show SeatsLawful (writeSceneWord s n w)
    unfold writeSceneWord
    split <;> exact hs.still rfl rfl rfl rfl
  | active => exact hs
  | seats => exact hs
  | queue => exact hs
  | counters => exact hs
  | capture => exact hs

theorem tblDataWrite_seatsLawful (hs : SeatsLawful s) (p : Port) (w : Word) : SeatsLawful (tblDataWrite p w s) := by
  unfold tblDataWrite
  dsimp only
  refine (State.modPort_apart _ p _).lawful ?_
  split
  · exact writeTable_seatsLawful hs _ _ w
  · exact hs

theorem writeRegister_seatsLawful (hs : SeatsLawful s) (p : Port) (n : BitVec 6) (w : Word) :
    SeatsLawful (writeRegister p n w s) := by
  have ported (f : PortState → PortState) : SeatsLawful (s.modPort p f) := (s.modPort_apart p f).lawful hs
  unfold writeRegister
  split
  · exact ported _
  · exact ported _
  · exact ported _
  · exact (writeReqCode_apart s p w).lawful hs
  · exact ported _
  · exact ported _
  · exact ported _
  · exact ported _
  · exact ported _
  · exact ported _
  · exact tblDataWrite_seatsLawful hs p w
  · exact hs

end Tables

/-! ## Every command -/

/-- Under RESET# every seat is at its reset record, every census 0 and no channel LISTENED (R198). -/
theorem deviceReset_seatsLawful (s : State) : SeatsLawful (deviceReset s) := by
  have hseat : ∀ i, (deviceReset s).seat i = Seat.reset := fun i => by
    simp [State.seat, deviceReset, State.held, Roster.reset]
  have hstation : ∀ i, (deviceReset s).station i = Station.reset := fun i => by
    simp [State.station, deviceReset, State.held, SeatBus.reset]
  have hchannel : ∀ c, (deviceReset s).channel c = ChannelRec.reset := fun c => by
    simp [State.channel, deviceReset, State.held, ChannelEngine.reset]
  have hcount : ∀ c, (deviceReset s).roster.count c = 0 := fun c =>
    List.countP_eq_zero.mpr fun x hx => by
      obtain ⟨-, rfl⟩ := Vector.mem_replicate.mp (Vector.mem_toList_iff.mp hx)
      simp [Seat.listens, Seat.reset]
  refine ⟨⟨fun c => ⟨?_, ?_, ?_⟩, rfl⟩, (seats_iff _).mpr ⟨rfl, fun i => ?_⟩, fun i => ?_⟩
  · rw [hcount]
    simp [deviceReset, State.held, Roster.reset]
  · simp [deviceReset, State.held, Roster.reset, Roster.isListened]
  · rw [hchannel]
    simp [deviceReset, State.held, Roster.reset, ChannelRec.reset]
  · rw [hseat]
    exact ⟨nofun, ⟨fun _ => rfl, fun _ => rfl⟩, by decide, by
      simp [effectiveVolume, deviceReset, State.held, Roster.reset, Seat.reset]⟩
  · rw [hseat, hstation]
    exact ⟨rfl, rfl⟩

/-- Every command has a next state, and leaves the seats lawful in it. -/
theorem exec_seatsLawful {s : State} (hs : SeatsLawful s) (i : Instr) :
    ∃ t, exec i s = .next t ∧ SeatsLawful t := by
  have apart {u : State} (hu : Apart s u) : SeatsLawful u := hu.lawful hs
  cases i with
  | deviceReset => exact ⟨_, rfl, deviceReset_seatsLawful s⟩
  | resetRelease => exact ⟨_, rfl, apart (resetRelease_apart s)⟩
  | odometerPulse => exact ⟨_, rfl, hs.running (apart (odometerPulse_apart s))⟩
  | fix => exact ⟨_, rfl, hs.taking fun a => apart (fixRequest_apart s a)⟩
  | fixTimerExpiry => exact ⟨_, rfl, apart (fixTimerExpiry_apart s)⟩
  | speedWindowEnd => exact ⟨_, rfl, hs.running (speedWindowEnd_seatsLawful hs)⟩
  | claimShadow p => exact ⟨_, rfl, hs.taking fun a => apart (claimShadowRequest_apart s p a)⟩
  | releaseShadow p => exact ⟨_, rfl, hs.taking fun a => apart (releaseShadowRequest_apart s p a)⟩
  | switch p => exact ⟨_, rfl, hs.taking fun a => apart (switchRequest_apart s p a)⟩
  | cancelSwitch p => exact ⟨_, rfl, hs.taking fun a => apart (cancelSwitchRequest_apart s p a)⟩
  | readStart => exact ⟨_, rfl, hs.running (apart (readStart_apart s))⟩
  | headerReadComplete bytes => exact ⟨_, rfl, apart (headerReadComplete_apart s bytes)⟩
  | directoryFetchComplete bytes => exact ⟨_, rfl, apart (directoryFetchComplete_apart s bytes)⟩
  | audioReadComplete bytes => exact ⟨_, rfl, apart (audioReadComplete_apart s bytes)⟩
  | blockBoundary => exact ⟨_, rfl, hs.running (apart (blockBoundary_apart s))⟩
  | announce p => exact ⟨_, rfl, hs.taking fun a => apart (announceRequest_apart s a p)⟩
  | cancel => exact ⟨_, rfl, hs.taking fun a => apart (cancelRequest_apart s a)⟩
  | liveOn => exact ⟨_, rfl, hs.taking fun a => apart (liveOnRequest_apart s a)⟩
  | liveOff => exact ⟨_, rfl, hs.taking fun a => apart (liveOffRequest_apart s a)⟩
  | entryExpiryTimer id => exact ⟨_, rfl, apart (entryExpiryTimer_apart s id)⟩
  | liveTimerExpiry => exact ⟨_, rfl, apart (liveTimerExpiry_apart s)⟩
  | scene => exact ⟨_, rfl, hs.taking fun a => apart (sceneRequest_apart s a)⟩
  | deck => exact ⟨_, rfl, hs.taking fun a => deckRequest_seatsLawful hs a⟩
  | channelEnable => exact ⟨_, rfl, hs.taking fun a => channelEnableRequest_seatsLawful hs a⟩
  | assign => exact ⟨_, rfl, hs.taking fun a => assignRequest_seatsLawful hs a⟩
  | release => exact ⟨_, rfl, hs.taking fun a => releaseRequest_seatsLawful hs a⟩
  | releaseAll => exact ⟨_, rfl, hs.taking fun a => releaseAllRequest_seatsLawful hs a⟩
  | clearCounters p => exact ⟨_, rfl, hs.written (apart (writeReqCode_apart s p _))⟩
  | clearCapture p =>
    exact ⟨_, rfl, hs.taking (f := clearCaptureRequest p s) fun _ => hs.still rfl rfl rfl rfl⟩
  | portReset p => exact ⟨_, rfl, hs.written (apart (writeReqCode_apart s p _))⟩
  | prstAssert p => exact ⟨_, rfl, apart (prstAssert_apart s p)⟩
  | prstRelease p => exact ⟨_, rfl, apart (prstRelease_apart s p)⟩
  | transactionStart o => exact ⟨_, rfl, hs.linked (apart (transactionStart_apart s o.port o.address))⟩
  | transactionEnd p => exact ⟨_, rfl, hs.linked (apart (s.modPort_apart p _))⟩
  | silenceTimerExpiry p => exact ⟨_, rfl, apart (silenceTimerExpiry_apart s p)⟩
  | registerWrite p reg w => exact ⟨_, rfl, hs.written (writeRegister_seatsLawful hs p reg w)⟩
  | noticesWrite p w => exact ⟨_, rfl, hs.written (apart (s.modPort_apart p _))⟩
  | noticeMaskWrite p w => exact ⟨_, rfl, hs.written (apart (s.modPort_apart p _))⟩
  | portStatusWrite p w => exact ⟨_, rfl, hs.written (apart (s.modPort_apart p _))⟩
  | tblSelectWrite p w => exact ⟨_, rfl, hs.written (apart (s.modPort_apart p _))⟩
  | tblDataRead p completed =>
    refine ⟨_, rfl, hs.linked ?_⟩
    split
    · exact hs.still rfl rfl rfl rfl
    · exact hs
    · exact hs
    · exact hs
  | tblDataWrite p w => exact ⟨_, rfl, hs.written (tblDataWrite_seatsLawful hs p w)⟩
  | positionRead p =>
    refine ⟨_, rfl, hs.linked ?_⟩
    split
    · exact apart (s.modPort_apart p _)
    · exact hs
  | cycleStart g => exact ⟨_, rfl, hs.running (apart (cycleStart_apart s g))⟩
  | poll g => exact ⟨_, rfl, hs.running (apart (poll_apart s g))⟩
  | reply g bytes => exact ⟨_, rfl, reply_seatsLawful hs g bytes⟩
  | replyWindowExpiry g received => exact ⟨_, rfl, replyWindowExpiry_seatsLawful hs g received⟩
  | lockIndicatorExpiry seat => exact ⟨_, rfl, lockIndicatorExpiry_seatsLawful hs seat⟩
  | pwmPeriodStart => exact ⟨_, rfl, hs.running (f := pwmPeriodStart) (hs.still rfl rfl rfl rfl)⟩
  | fadeStep => exact ⟨_, rfl, hs.running (f := fadeStep) (hs.still rfl rfl rfl rfl)⟩
  | conversionStart => exact ⟨_, rfl, hs.running (f := conversionStart) (hs.still rfl rfl rfl rfl)⟩
  | conversionComplete sample => exact ⟨_, rfl, apart (conversionComplete_apart s sample)⟩
  | flashHalfPeriodExpiry => exact ⟨_, rfl, apart (flashHalfPeriodExpiry_apart s)⟩
  | flashChange => exact ⟨_, rfl, apart (flashChange_apart s)⟩
  | safetyChange => exact ⟨_, rfl, apart (safetyChange_apart s)⟩

/-- Settles O57: an idle step moves the clock alone, and a command leaves the seats lawful. -/
theorem everyStepKeepsTheCensus : Obligations.EveryStepKeepsTheCensus := by
  intro s t hcensus hseats hmirror hstep
  have hs : SeatsLawful s := ⟨hcensus, hseats, hmirror⟩
  suffices ht : SeatsLawful t from ⟨ht.census, ht.seats, ht.mirror⟩
  cases hp : s.pending with
  | nil =>
    obtain rfl : s.tick = t := by simpa [step, hp] using hstep
    exact hs.still rfl rfl rfl rfl
  | cons i rest =>
    have hrest : SeatsLawful { s with pending := rest } := hs.still rfl rfl rfl rfl
    obtain ⟨u, hu, lawful⟩ := exec_seatsLawful hrest i
    obtain rfl : u = t := by simpa [step, hp, hu] using hstep
    exact lawful

end Sys2Proof.Machine

/-!
PROOFS. Every step keeps the store reader, the seat bus and the lights lawful (R45, R46, R61, R65, R131, R132, R136,
R165 to R167, R175, R176). One relation, `Retains`, says that from one state to the next each of the three stays
lawful; it composes, so a command retains what the operations it is made of retain. The channel engine and the queue
touch none of the three but for the stream buffers, and of these they spare those that the store reader owns
(`ChannelRec.Spares`).
-/
namespace Sys2Proof.Machine

/-! ## Lawful lights (R165 to R167, R175, R176) -/

/-- The levels of a zone but the pending one are in range. -/
structure Zone.InRange (x : Zone) : Prop where
  current : x.current ≤ 255
  target : x.target ≤ 255
  applied : x.applied ≤ 255

/-- The zones, the levels of every scene and the scales are in range. -/
structure Lights.InRange (l : Lights) : Prop where
  zone (z : Fin 8) : l.zones[z].InRange
  scene (k : Fin 16) (z : Fin 8) : l.scenes[k].levels[z] ≤ 255
  scale (a : Ambient) : l.scaleOf a ≤ 256

/-- Every zone stands in the case of R167 that applies to it. -/
def Lights.Settled (l : Lights) : Prop :=
  ∀ z : Fin 8, (l.zones[z].mode, l.zones[z].pending) = l.pendingOf z l.zones[z].current

/-- The lights are in range, every zone is settled, and the half-period timer runs exactly while FLASH is active. -/
structure Lights.Lawful (l : Lights) : Prop extends l.InRange where
  settled : l.Settled
  timed : l.flashTimer.isSome = l.flashActive

namespace Lights

variable {l : Lights}

/-- Whatever case of R167 applies, the pending level of a level in range is in range. -/
theorem InRange.pendingOf_le (h : l.InRange) (z : Fin 8) {current : Nat} (hc : current ≤ 255) :
    (l.pendingOf z current).2 ≤ 255 := by
  have scaled : current * l.scaleOf l.ambient / 256 ≤ 255 := by
    have := Nat.mul_le_mul hc (h.scale l.ambient)
    omega
  unfold Lights.pendingOf
  split
  · exact le_refl _
  · split
    · dsimp only
      split <;> omega
    · split
      · exact hc
      · exact scaled

theorem Lawful.pending_le (h : l.Lawful) (z : Fin 8) : l.zones[z].pending ≤ 255 := by
  have hp := h.pendingOf_le z (h.zone z).current
  rwa [← h.settled z] at hp

/-- A recomputation settles every zone (R167). -/
theorem InRange.recompute (h : l.InRange) (ht : l.flashTimer.isSome = l.flashActive) : l.recompute.Lawful where
  zone z := by rw [l.recompute_zone]; exact ⟨(h.zone z).current, (h.zone z).target, (h.zone z).applied⟩
  scene := h.scene
  scale := h.scale
  settled z := by rw [l.recompute_zone]; rfl
  timed := ht

/-- These are the invariants of the statement. -/
theorem lawful_iff (s : State) : s.lights.Lawful ↔ Safety.Levels s ∧ Safety.FlashTimer s := by
  constructor
  · intro h
    refine ⟨⟨fun z => ?_, h.scene, h.scale .day, h.scale .dusk, h.scale .night⟩, h.timed⟩
    exact ⟨h.settled z, (h.zone z).current, (h.zone z).target, h.pending_le z, (h.zone z).applied⟩
  · rintro ⟨⟨hz, hscene, hday, hdusk, hnight⟩, timed⟩
    refine ⟨⟨fun z => ?_, hscene, fun a => ?_⟩, fun z => ?_, timed⟩
    · obtain ⟨-, current, target, -, applied⟩ := hz z
      exact ⟨current, target, applied⟩
    · cases a
      · exact hday
      · exact hdusk
      · exact hnight
    · obtain ⟨settled, -⟩ := hz z
      exact settled

/-! ### What keeps the lights lawful -/

/-- A scene's levels become targets, and at rate 0 current levels (R169). -/
theorem Lawful.applyScene (h : l.Lawful) (k : Fin 16) : (l.applyScene k).Lawful := by
  unfold Lights.applyScene
  dsimp only
  refine InRange.recompute ⟨fun z => ?_, h.scene, h.scale⟩ h.timed
  simp only [Fin.getElem_fin, vmapIdx_get]
  refine ⟨?_, h.scene k z, (h.zone z).applied⟩
  dsimp only
  split
  · exact h.scene k z
  · exact (h.zone z).current

/-- A level fades within the bounds of where it is and where it goes (R171). -/
theorem fadeTowards_le {rate current target n : Nat} (hc : current ≤ n) (ht : target ≤ n) :
    fadeTowards rate current target ≤ n := by
  unfold fadeTowards
  split <;> omega

theorem Lawful.fade (h : l.Lawful) : l.fade.Lawful := by
  unfold Lights.fade
  refine InRange.recompute ⟨fun z => ?_, h.scene, h.scale⟩ h.timed
  simp only [Fin.getElem_fin, vmap_get]
  exact ⟨fadeTowards_le (h.zone z).current (h.zone z).target, (h.zone z).target, (h.zone z).applied⟩

/-- The pending levels become the applied ones (R166). -/
theorem Lawful.applyPending (h : l.Lawful) (next : Nat) :
    ({ l with zones := vmap (fun zone => { zone with applied := zone.pending }) l.zones, nextPwm := next } :
      Lights).Lawful := by
  refine ⟨⟨fun z => ?_, h.scene, h.scale⟩, fun z => ?_, h.timed⟩
  · simp only [Fin.getElem_fin, vmap_get]
    exact ⟨(h.zone z).current, (h.zone z).target, h.pending_le z⟩
  · simp only [Fin.getElem_fin, vmap_get]
    exact h.settled z

/-- The converter's record and clocks decide no level. -/
theorem Lawful.convert (h : l.Lawful) (run : Bool) (sample next ends : Nat) :
    ({ l with run := run, sample := sample, nextConversion := next, conversionEnd := ends } : Lights).Lawful :=
  { h with settled := h.settled }

theorem Lawful.advanceCandidate (h : l.Lawful) (i : Ambient) : (l.advanceCandidate i).Lawful := by
  unfold Lights.advanceCandidate
  split
  · exact { h with settled := h.settled }
  · split
    · split
      · exact InRange.recompute { h with } h.timed
      · exact { h with settled := h.settled }
    · exact { h with settled := h.settled }

/-- The timer starts and stops with FLASH (R176). -/
theorem Lawful.takeFlash (h : l.Lawful) (now : Nat) (active : Bool) : (l.takeFlash now active).Lawful := by
  unfold Lights.takeFlash
  split
  · exact h
  · split
    · exact InRange.recompute { h with } rfl
    · exact InRange.recompute { h with } rfl

theorem Lawful.takeSafety (h : l.Lawful) (active : Bool) : (l.takeSafety active).Lawful := by
  unfold Lights.takeSafety
  split
  · exact h
  · exact InRange.recompute { h with } h.timed

/-- A half-period that expires was running, so FLASH is active (R176). -/
theorem Lawful.nextHalfPeriod (h : l.Lawful) (hrun : l.flashTimer.isSome) (phaseOn : Bool) (t : Nat) :
    (Lights.recompute { l with phaseOn := phaseOn, flashTimer := some t }).Lawful :=
  InRange.recompute { h with } (hrun.symm.trans h.timed)

/-- Under RESET# every level is 0 and FLASH is not active (R179). -/
theorem lawful_reset : Lights.reset.Lawful := by
  have hzone (z : Fin 8) : Lights.reset.zones[z] = Zone.reset := by simp [Lights.reset]
  refine ⟨⟨fun z => ?_, fun k z => ?_, fun a => ?_⟩, fun z => ?_, rfl⟩
  · rw [hzone]
    exact ⟨Nat.zero_le _, Nat.zero_le _, Nat.zero_le _⟩
  · simp [Lights.reset, SceneRec.reset]
  · cases a <;> decide
  · rw [hzone]
    simp [Lights.pendingOf, Lights.reset, Zone.reset, inZones]

end Lights

/-! ### Scene words (R168) -/

/-- The levels of a scene word are bytes, so a stored word leaves every level in range. -/
theorem SceneRec.store_levels_le {r : SceneRec} (h : ∀ z : Fin 8, r.levels[z] ≤ 255) (k : Nat) (w : Word) (z : Fin 8) :
    (r.store k w).levels[z] ≤ 255 := by
  have byte (lo : Nat) : field w lo 8 ≤ 255 := Nat.le_of_lt_succ (w.extractLsb' lo 8).isLt
  have pair (i j : Fin 8) : ((r.levels.set i (field w 8 8)).set j (field w 0 8))[z] ≤ 255 := by
    simp only [Fin.getElem_fin, Vector.getElem_set]
    split
    · exact byte 0
    · split
      · exact byte 8
      · exact h z
  unfold SceneRec.store
  dsimp only
  split
  · exact pair 0 1
  · exact pair 2 3
  · exact pair 4 5
  · exact pair 6 7
  · exact h z

theorem Lights.Lawful.storeScene {l : Lights} (h : l.Lawful) (k : Fin 16) (n : Nat) (w : Word) :
    ({ l with scenes := vmod l.scenes k fun r => r.store n w } : Lights).Lawful := by
  refine { h with settled := h.settled, scene := fun j z => ?_ }
  by_cases hj : j = k
  · subst hj
    simp only [vmod_get_self]
    exact SceneRec.store_levels_le (h.scene j) n w z
  · simp only [vmod_get_ne _ _ _ _ hj]
    exact h.scene j z

/-! ## The reader's buffers (R61, R71) -/

/-- Every buffer that the store reader owns stays its own. -/
structure ChannelRec.Spares (ch ch' : ChannelRec) : Prop where
  x : ch.bufX.owner = .reader → ch'.bufX.owner = .reader
  y : ch.bufY.owner = .reader → ch'.bufY.owner = .reader

/-- A buffer that is returned, or was the reader's before, is the reader's. -/
theorem Buffer.returned_owner (b : Buffer) : b.returned.owner = .reader := by
  unfold Buffer.returned
  cases h : b.owner
  · exact h
  · rfl

namespace ChannelRec

variable {ch ch' : ChannelRec}

theorem Spares.refl (ch : ChannelRec) : ch.Spares ch := ⟨id, id⟩

theorem Spares.trans {ch'' : ChannelRec} (a : ch.Spares ch') (b : ch'.Spares ch'') : ch.Spares ch'' :=
  ⟨b.x ∘ a.x, b.y ∘ a.y⟩

theorem Spares.buf (h : ch.Spares ch') (n : BufName) (hn : (ch.buf n).owner = .reader) :
    (ch'.buf n).owner = .reader := by
  cases n
  · exact h.x hn
  · exact h.y hn

theorem spares_endItem (ch : ChannelRec) : ch.Spares ch.endItem :=
  ⟨fun _ => Buffer.returned_owner _, fun _ => Buffer.returned_owner _⟩

theorem spares_settleHold (ch : ChannelRec) (n : Nat) : ch.Spares (ch.settleHold n) := by
  unfold ChannelRec.settleHold
  split <;> exact ⟨id, id⟩

theorem spares_takeOffer (ch : ChannelRec) (n : Nat) (o : Option Offer) : ch.Spares (ch.takeOffer n o) :=
  Spares.trans (ch' := { ch with offer := o }) ⟨id, id⟩ (spares_settleHold _ n)

theorem spares_stopItem (ch : ChannelRec) : ch.Spares ch.stopItem := by
  unfold ChannelRec.stopItem
  split <;> exact ⟨id, id⟩

theorem spares_removeEntry (ch : ChannelRec) (i : Nat) : ch.Spares (ch.removeEntry i) := ⟨id, id⟩

theorem spares_takeQuiet (ch : ChannelRec) : ch.Spares ch.takeQuiet := by
  unfold ChannelRec.takeQuiet
  dsimp only
  split <;> exact ⟨id, id⟩

theorem spares_setListened (ch : ChannelRec) (on : Bool) : ch.Spares (ch.setListened on) := by
  cases on
  · exact ⟨fun _ => Buffer.returned_owner _, fun _ => Buffer.returned_owner _⟩
  · exact ⟨id, id⟩

/-- A buffer given to the reader is one buffer more. -/
theorem spares_setBuf (ch : ChannelRec) (n : BufName) {b : Buffer} (hb : b.owner = .reader) :
    ch.Spares (ch.setBuf n b) := by
  cases n
  · exact ⟨fun _ => hb, id⟩
  · exact ⟨id, fun _ => hb⟩

theorem buf_setBuf_self (ch : ChannelRec) (n : BufName) (b : Buffer) : (ch.setBuf n b).buf n = b := by
  cases n <;> rfl

theorem spares_returnStale (ch : ChannelRec) : ch.Spares ch.returnStale := by
  have keep (n : BufName) (hn : (ch.buf n).owner = .reader) :
      (if (ch.buf n).tag = ch.dueTag n then ch.buf n else (ch.buf n).returned).owner = .reader := by
    split
    · exact hn
    · exact Buffer.returned_owner _
  exact ⟨keep .x, keep .y⟩

end ChannelRec

/-! ## What a step retains -/

/-- From `s` to `t` the store reader, the seat bus and the lights each stay lawful. -/
structure Retains (s t : State) : Prop where
  reader : Safety.Reader s → Safety.Reader t
  bus : Safety.Bus s → Safety.Bus t
  lights : s.lights.Lawful → t.lights.Lawful

namespace Retains

variable {s t u : State}

theorem refl (s : State) : Retains s s := ⟨id, id, id⟩

theorem trans (a : Retains s t) (b : Retains t u) : Retains s u :=
  ⟨b.reader ∘ a.reader, b.bus ∘ a.bus, b.lights ∘ a.lights⟩

theorem reader_of_spares (hr : t.reader = s.reader) (hc : ∀ c, (s.channel c).Spares (t.channel c))
    (hs : Safety.Reader s) : Safety.Reader t := by
  obtain ⟨target, header⟩ := hs
  rw [← hr] at target header
  refine ⟨fun r hf => ?_, header⟩
  have owned := target r hf
  cases hk : r.kind with
  | header => rfl
  | directory c => rfl
  | audio c n tag =>
    rw [hk] at owned
    exact decide_eq_true ((hc c).buf n (of_decide_eq_true owned))

theorem bus_of_eq (hb : t.bus = s.bus) (hs : Safety.Bus s) : Safety.Bus t := by
  unfold Safety.Bus State.segment State.station at *
  rwa [hb]

/-- Reader, bus and lights stand, and every channel spares the reader's buffers. -/
theorem of_spares (hr : t.reader = s.reader) (hb : t.bus = s.bus) (hl : t.lights = s.lights)
    (hc : ∀ c, (s.channel c).Spares (t.channel c)) : Retains s t :=
  ⟨reader_of_spares hr hc, bus_of_eq hb, fun h => hl ▸ h⟩

theorem spares_of_channels (hc : t.engine.channels = s.engine.channels) (c : ChannelNo) :
    (s.channel c).Spares (t.channel c) := by
  unfold State.channel
  rw [hc]
  exact .refl _

/-- Reader, bus, lights and channels stand. -/
theorem still (hr : t.reader = s.reader) (hb : t.bus = s.bus) (hl : t.lights = s.lights)
    (hc : t.engine.channels = s.engine.channels) : Retains s t :=
  .of_spares hr hb hl (spares_of_channels hc)

/-- The light controller alone has worked. -/
theorem of_lights (hr : t.reader = s.reader) (hb : t.bus = s.bus) (hc : t.engine.channels = s.engine.channels)
    (h : s.lights.Lawful → t.lights.Lawful) : Retains s t :=
  ⟨reader_of_spares hr (spares_of_channels hc), bus_of_eq hb, h⟩

/-- The seat bus controller alone has worked. -/
theorem of_bus (hr : t.reader = s.reader) (hl : t.lights = s.lights) (hc : t.engine.channels = s.engine.channels)
    (h : Safety.Bus s → Safety.Bus t) : Retains s t :=
  ⟨reader_of_spares hr (spares_of_channels hc), h, fun hs => hl ▸ hs⟩

/-- The store reader has worked, and with it perhaps a channel. -/
theorem of_reader (hb : t.bus = s.bus) (hl : t.lights = s.lights) (h : Safety.Reader s → Safety.Reader t) :
    Retains s t :=
  ⟨h, bus_of_eq hb, fun hs => hl ▸ hs⟩

/-- Of all the channels only `c` has worked, within the channel engine and the queue. -/
theorem of_only {c : ChannelNo} (ha : Audio s t) (ho : Only c s t) (hc : (s.channel c).Spares (t.channel c)) :
    Retains s t :=
  .of_spares ha.reader ha.bus ha.lights (ho.forall_channel ChannelRec.Spares.refl hc)

/-- A fold of steps that each retain the three. -/
theorem foldl {α : Type} (f : State → α → State) (h : ∀ s a, Retains s (f s a)) (l : List α) (s : State) :
    Retains s (l.foldl f s) := by
  induction l generalizing s with
  | nil => exact refl s
  | cons a l ih => exact (h s a).trans (ih (f s a))

theorem taking {p : Port} {k : RequestKind} {f : Args → State} (h : ∀ a, Retains s (f a)) :
    Retains s (s.taking p k f) :=
  s.taking_cases p k f _ (.refl s) fun a _ => h a

theorem running {f : State → State} (h : Retains s (f s)) : Retains s (s.running f) := by
  unfold State.running
  split
  · exact .refl s
  · exact h

theorem written {p : Port} {n : BitVec 6} {f : State → State} (h : Retains s (f s)) : Retains s (s.written p n f) :=
  s.written_cases p n f _ (.refl s) fun _ => h.trans (.still rfl rfl rfl rfl)

theorem linked {p : Port} (h : Retains s t) : Retains s (s.linked p t) :=
  s.linked_cases t p _ (.refl s) fun _ _ => h

end Retains

theorem State.modChannel_retains (s : State) (c : ChannelNo) {f : ChannelRec → ChannelRec}
    (h : (s.channel c).Spares (f (s.channel c))) : Retains s (s.modChannel c f) := by
  rw [← s.modChannel_channel_self c f] at h
  exact .of_spares rfl rfl rfl ((Only.modChannel s c f).forall_channel ChannelRec.Spares.refl h)

theorem State.modPort_retains (s : State) (p : Port) (f : PortState → PortState) : Retains s (s.modPort p f) :=
  .still rfl rfl rfl rfl

theorem State.answer_retains (s : State) (p : Port) (r : ResultCode) (d : Word) : Retains s (s.answer p r d) :=
  .still rfl rfl rfl rfl

theorem State.raise_retains (s : State) (n : Notice) : Retains s (s.raise n) := .still rfl rfl rfl rfl

theorem State.chainError_retains (s : State) : Retains s s.chainError := .still rfl rfl rfl rfl

theorem State.cueDropped_retains (s : State) : Retains s s.cueDropped := .still rfl rfl rfl rfl

theorem State.contextLost_retains (s : State) : Retains s s.contextLost := .still rfl rfl rfl rfl

theorem State.judgeSignals_retains (s : State) : Retains s s.judgeSignals := .still rfl rfl rfl rfl

/-! ## The queue's work (R101 to R104, R109 to R120) -/

section Queue
variable {s t : State}

/-- Whatever has become of the queue, a renaming of the offers spares the reader's buffers (R78). -/
theorem Retains.of_renamed (hr : t.reader = s.reader) (hb : t.bus = s.bus) (hl : t.lights = s.lights)
    (hc : t.engine.channels = s.engine.channels) : Retains s t.renameOffers := by
  refine (Retains.still hr hb hl hc).trans (.of_spares rfl rfl rfl fun c => ?_)
  rw [State.renameOffers_channel]
  split
  · exact ChannelRec.spares_takeOffer _ _ _
  · exact .refl _

theorem State.endEntry_retains (s : State) (e : Entry) (o : EndOutcome) : Retains s (s.endEntry e o) := by
  unfold State.endEntry
  dsimp only
  exact .of_renamed (by simp) (by simp) (by simp) (by simp)

theorem State.judgeEnd_retains (s : State) (id : Nat) : Retains s (s.judgeEnd id) := by
  unfold State.judgeEnd
  split
  · split
    · exact .refl s
    · exact s.endEntry_retains _ _
  · exact .refl s

/-- What follows a change of the entries (R101). -/
theorem Retains.of_changed (id : Nat) (hr : t.reader = s.reader) (hb : t.bus = s.bus) (hl : t.lights = s.lights)
    (hc : t.engine.channels = s.engine.channels) : Retains s (t.afterChange id) :=
  ((Retains.of_renamed hr hb hl hc).trans (State.judgeEnd_retains _ id)).trans
    (State.judgeSignals_retains _)

theorem State.changeObligation_retains (s : State) (id : Nat) (c : ChannelNo) (f : Obligation → Obligation) :
    Retains s (s.changeObligation id c f) :=
  .of_changed id rfl rfl rfl rfl

theorem State.stopOn_retains (s : State) (c : ChannelNo) : Retains s (s.stopOn c) :=
  s.modChannel_retains c (ChannelRec.spares_stopItem _)

theorem State.reportStart_retains (s : State) (id : Nat) (c : ChannelNo) (l : Bool) :
    Retains s (s.reportStart id c l) := by
  unfold State.reportStart
  split
  · split
    · dsimp only
      split
      · exact s.changeObligation_retains _ _ _
      · exact (s.raise_retains _).trans (State.changeObligation_retains _ _ _ _)
    · exact s.stopOn_retains c
  · exact s.stopOn_retains c

theorem State.reportRestart_retains (s : State) (id : Nat) (c : ChannelNo) : Retains s (s.reportRestart id c) := by
  unfold State.reportRestart
  split
  · exact s.changeObligation_retains _ _ _
  · exact s.stopOn_retains c

theorem State.reportCut_retains (s : State) (id : Nat) (c : ChannelNo) : Retains s (s.reportCut id c) := by
  unfold State.reportCut
  split
  · split
    · exact s.changeObligation_retains _ _ _
    · exact .refl s
  · exact s.modChannel_retains c (ChannelRec.spares_removeEntry _ id)

theorem State.reportEnd_retains (s : State) (id : Nat) (c : ChannelNo) : Retains s (s.reportEnd id c) := by
  unfold State.reportEnd
  split
  · exact s.changeObligation_retains _ _ _
  · exact .refl s

theorem State.reportUnheard_retains (s : State) (id : Nat) (c : ChannelNo) : Retains s (s.reportUnheard id c) := by
  unfold State.reportUnheard
  split
  · exact s.changeObligation_retains _ _ _
  · exact .refl s

theorem State.reportDiscarded_retains (s : State) (id : Nat) (c : ChannelNo) : Retains s (s.reportDiscarded id c) := by
  unfold State.reportDiscarded
  split
  · exact s.changeObligation_retains _ _ _
  · exact .refl s

theorem State.reportDisabled_retains (s : State) (id : Nat) (c : ChannelNo) : Retains s (s.reportDisabled id c) := by
  unfold State.reportDisabled
  split
  · exact s.changeObligation_retains _ _ _
  · exact .refl s

theorem State.addEntry_retains (s : State) (e : Entry) : Retains s (s.addEntry e) := .of_renamed rfl rfl rfl rfl

theorem State.takeExpiry_retains (s : State) (id : Nat) : Retains s (s.takeExpiry id) := .of_changed id rfl rfl rfl rfl

theorem State.judgeTrip_retains (s : State) : Retains s s.judgeTrip :=
  (Retains.foldl _ (fun s (e : Entry) => .of_renamed (t := s.modEntry e.id _) rfl rfl rfl rfl) _ s).trans
    (Retains.foldl _ (fun s (e : Entry) => s.takeExpiry_retains e.id) _ _)

theorem State.takeAnnounceCue_retains (s : State) (q : CueSlot) (trip : Nat) :
    Retains s (s.takeAnnounceCue q trip) := by
  unfold State.takeAnnounceCue
  dsimp only
  split
  · exact .still rfl rfl rfl rfl
  · split
    · exact s.cueDropped_retains
    · exact (s.addEntry_retains _).trans (State.judgeTrip_retains _)

theorem State.stopPlaying_retains (s : State) (e : Entry) : Retains s (s.stopPlaying e) :=
  Retains.foldl _ (fun s c => by
    split
    · exact s.stopOn_retains c
    · exact .refl s) _ s

theorem State.removeContexts_retains (s : State) (id : Nat) : Retains s (s.removeContexts id) :=
  Retains.foldl _ (fun s c => s.modChannel_retains c (ChannelRec.spares_removeEntry _ id)) _ s

theorem State.cancelEntry_retains (s : State) (e : Entry) : Retains s (s.cancelEntry e) :=
  (((s.stopPlaying_retains e).trans (State.removeContexts_retains _ _)).trans (State.endEntry_retains _ _ _)).trans
    (State.judgeSignals_retains _)

theorem State.endLive_retains (s : State) : Retains s s.endLive := by
  unfold State.endLive
  split
  · exact .refl s
  · exact ((s.stopPlaying_retains _).trans (State.endEntry_retains _ _ _)).trans (State.judgeSignals_retains _)

theorem State.queueDisable_retains (s : State) (off : ChannelNo → Bool) : Retains s (s.queueDisable off) := by
  rw [State.queueDisable_eq]
  exact (Retains.still (s := s) (t := s.openUnheard off) rfl rfl rfl rfl).trans
    (Retains.foldl _ (fun s (e : Entry) => .of_changed e.id rfl rfl rfl rfl) _ _)

end Queue

/-! ## Chains, group records and cues (R51 to R54, R80 to R82) -/

section Engine
variable {s : State} {c : ChannelNo}

/-- A chain takes up no buffer. -/
theorem Retains.of_rechained {t : State} (ha : Audio s t) (h : Rechained c s t) : Retains s t := by
  obtain ⟨ho, k, f, hk⟩ := h
  exact .of_only ha ho (by rw [hk]; exact ⟨id, id⟩)

theorem State.setPlayhead_retains (s : State) (c : ChannelNo) (ph : Playhead) : Retains s (s.setPlayhead c ph) :=
  s.modChannel_retains c ⟨id, id⟩

theorem State.enterGroup_retains (s : State) (c : ChannelNo) (k : Chain) (e : LangEntry) (u : Bool) (next : Word) :
    Retains s (s.enterGroup c k e u next) :=
  .of_rechained (s.enterGroup_audio c k e u next) (s.enterGroup_rechained c k e u next)

theorem State.moveOn_retains (s : State) (c : ChannelNo) (k : Chain) (next : Word) : Retains s (s.moveOn c k next) :=
  .of_rechained (s.moveOn_audio c k next) (s.moveOn_rechained c k next)

theorem State.passOver_retains (s : State) (c : ChannelNo) (k : Chain) (n : Nat) (next : Word) :
    Retains s (s.passOver c k n next) :=
  .of_rechained (s.passOver_audio c k n next) (s.passOver_rechained c k n next)

/-- The item before ends, and its buffers go back to the reader (R71, R80). -/
theorem State.takeUpChain_retains (s : State) (c : ChannelNo) (g offset walked start : Nat) :
    Retains s (s.takeUpChain c g offset walked start) := by
  obtain ⟨ho, k, f, n, hk⟩ := s.takeUpChain_channel c g offset walked start
  refine .of_only (s.takeUpChain_audio c g offset walked start) ho ?_
  have ended := (s.channel c).spares_endItem
  have begun : (s.channel c).Spares ((s.channel c).withChain k f) := ⟨ended.x, ended.y⟩
  rw [hk]
  exact begun.trans (ChannelRec.spares_settleHold _ n)

theorem State.chainRecord_retains (s : State) (c : ChannelNo) (k : Chain) (r : GroupRecord) :
    Retains s (s.chainRecord c k r) := by
  unfold State.chainRecord
  dsimp only
  have judged : Retains s (s.chainErrorIf (judgeEntry r s.reader.storeSize = .invalid)) := by
    unfold State.chainErrorIf
    split
    · exact s.chainError_retains
    · exact .refl s
  refine judged.trans ?_
  split
  · split
    · exact State.enterGroup_retains _ _ _ _ _ _
    · exact State.moveOn_retains _ _ _ _
  · split
    · exact State.enterGroup_retains _ _ _ _ _ _
    · exact State.moveOn_retains _ _ _ _
  · exact State.setPlayhead_retains _ _ _
  · exact State.passOver_retains _ _ _ _ _
  · exact State.passOver_retains _ _ _ _ _
  · exact State.passOver_retains _ _ _ _ _
  · exact .refl _
  · exact .refl _
  · exact .refl _

theorem State.endClipNow_retains (s : State) (c : ChannelNo) (cl : Clip) : Retains s (s.endClipNow c cl) := by
  unfold State.endClipNow
  dsimp only
  refine (s.setPlayhead_retains c (.clip { cl with finished := true, reported := true })).trans ?_
  split
  · exact .refl _
  · exact State.reportEnd_retains _ _ _

theorem State.clipRecord_retains (s : State) (c : ChannelNo) (cl : Clip) (r : GroupRecord) :
    Retains s (s.clipRecord c cl r) := by
  unfold State.clipRecord
  split
  · exact s.setPlayhead_retains _ _
  · exact s.endClipNow_retains _ _
  · exact s.chainError_retains.trans (State.endClipNow_retains _ _ _)

theorem State.takeRecord_retains (s : State) (c : ChannelNo) (r : GroupRecord) : Retains s (s.takeRecord c r) := by
  unfold State.takeRecord
  dsimp only
  refine (s.modChannel_retains c (f := fun ch => { ch with fetch := .none }) ⟨id, id⟩).trans ?_
  split
  · exact State.chainRecord_retains _ _ _ _
  · exact State.clipRecord_retains _ _ _ _
  · exact .refl _
  · exact .refl _

theorem State.commentaryCueOn_retains (s : State) (c : ChannelNo) (g : Nat) :
    Retains s (s.commentaryCueOn c g) := by
  have saved : Retains s (match placeCommentary (s.channel c).stack ⟨g, 0, 0, g, s.now⟩ with
      | some stack => s.modChannel c fun ch => { ch with stack := stack }
      | none => s.contextLost) := by
    split
    · exact s.modChannel_retains c ⟨id, id⟩
    · exact s.contextLost_retains
  unfold State.commentaryCueOn
  dsimp only
  split
  · exact s.modChannel_retains c ⟨id, id⟩
  · exact s.modChannel_retains c ⟨id, id⟩
  · exact s.modChannel_retains c ⟨id, id⟩
  · exact saved
  · exact saved

theorem State.takeCommentaryCue_retains (s : State) (g : Nat) (set : ChannelSet) :
    Retains s (s.takeCommentaryCue g set) :=
  Retains.foldl _ (fun s c => by
    split
    · exact s.commentaryCueOn_retains c g
    · exact .refl s) _ s

theorem State.takeQuietCue_retains (s : State) (set : ChannelSet) : Retains s (s.takeQuietCue set) :=
  Retains.foldl _ (fun s c => by
    split
    · exact s.modChannel_retains c (ChannelRec.spares_takeQuiet _)
    · exact .refl s) _ s

/-! ## The block boundary (R70 to R75, R80 to R91) -/

theorem State.endItem_retains (s : State) (c : ChannelNo) : Retains s (s.modChannel c ChannelRec.endItem) :=
  s.modChannel_retains c (ChannelRec.spares_endItem _)

theorem State.applyAction_retains (s : State) (c : ChannelNo) : Retains s (s.applyAction c).state := by
  have cleared : Retains s (s.modChannel c fun ch => { ch with action := .none }) := s.modChannel_retains c ⟨id, id⟩
  unfold State.applyAction
  dsimp only
  split
  · exact cleared.trans (State.takeUpChain_retains _ _ _ _ _ _)
  · exact cleared.trans (State.takeUpChain_retains _ _ _ _ _ _)
  · exact cleared.trans (State.takeUpChain_retains _ _ _ _ _ _)
  · exact cleared.trans (State.endItem_retains _ c)
  · exact cleared.trans (State.endItem_retains _ c)
  · exact cleared
  · exact .refl s

theorem State.judgeItemEnd_retains (s : State) (c : ChannelNo) : Retains s (s.judgeItemEnd c).1 := by
  unfold State.judgeItemEnd
  split
  · split
    · exact s.endItem_retains c
    · exact .refl s
    · exact .refl s
    · exact .refl s
  · split
    · refine Retains.trans ?_ (State.endItem_retains _ c)
      split
      · exact .refl s
      · exact s.reportEnd_retains _ _
    · exact .refl s
  · split
    · exact s.endItem_retains c
    · exact .refl s
  · exact .refl s

theorem judgeOfferCut_retains (n : Nat) (s : State) (c : ChannelNo) : Retains s (judgeOfferCut n s c).1 := by
  induction n generalizing s with
  | zero => exact .refl s
  | succ n ih =>
    unfold judgeOfferCut
    split
    · split
      · exact (s.reportUnheard_retains _ _).trans (ih _)
      · exact .refl s
    · exact .refl s

theorem State.makeRoom_retains (s : State) (c : ChannelNo) : Retains s (s.makeRoom c) := by
  unfold State.makeRoom
  dsimp only
  split
  · exact .refl s
  · have dropped : Retains s (s.modChannel c fun ch => { ch with stack := (s.channel c).stack.dropLast }).contextLost :=
      (s.modChannel_retains c ⟨id, id⟩).trans (State.contextLost_retains _)
    split
    · exact dropped.trans (State.reportDiscarded_retains _ _ _)
    · exact dropped
    · exact dropped

theorem State.pushContext_retains (s : State) (c : ChannelNo) (k : Context) : Retains s (s.pushContext c k) :=
  (s.makeRoom_retains c).trans (State.modChannel_retains _ c ⟨id, id⟩)

theorem State.cutItem_retains (s : State) (c : ChannelNo) (t : Option Nat) : Retains s (s.cutItem c t) := by
  unfold State.cutItem
  dsimp only
  refine Retains.trans ?_ (State.endItem_retains _ c)
  split
  · split
    · exact s.pushContext_retains c _
    · exact .refl s
  · exact (s.pushContext_retains c _).trans (State.reportCut_retains _ _ _)
  · exact .refl s
  · exact .refl s

theorem State.judgeCut_retains (s : State) (c : ChannelNo) (t : Option Nat) : Retains s (s.judgeCut c t).1 := by
  have judged := judgeOfferCut_retains (s.queue.entries.length + 1) s c
  have cut := judged.trans (State.cutItem_retains _ c t)
  unfold State.judgeCut
  dsimp only
  split
  · exact cut
  · split
    · split
      · exact cut
      · exact judged.trans (State.modChannel_retains _ c ⟨id, id⟩)
    · exact judged
    · exact judged
    · exact judged
    · exact judged

theorem State.judgeItem_retains (s : State) (c : ChannelNo) : Retains s (s.judgeItem c).state := by
  have applied := s.applyAction_retains c
  have ended := applied.trans (State.judgeItemEnd_retains _ c)
  unfold State.judgeItem
  dsimp only
  split
  · exact applied
  · split
    · exact ended
    · exact ended.trans (State.judgeCut_retains _ c _)

theorem State.goQuiet_retains (s : State) (c : ChannelNo) : Retains s (s.goQuiet c) :=
  s.modChannel_retains c ⟨id, id⟩

theorem State.putClip_retains (s : State) (c : ChannelNo) (i g : Nat) (cls : AnnClass) :
    Retains s (s.putClip c i g cls) :=
  s.modChannel_retains c ⟨id, id⟩

theorem State.popContext_retains (s : State) (c : ChannelNo) : Retains s (s.popContext c) :=
  s.modChannel_retains c ⟨id, id⟩

theorem State.fetchClip_retains (s : State) (c : ChannelNo) (g : Nat) : Retains s (s.fetchClip c g) := by
  unfold State.fetchClip
  split
  · split
    · exact s.chainError_retains.trans (State.endClipNow_retains _ _ _)
    · exact .refl s
    · exact .refl s
    · exact .refl s
  · exact s.modChannel_retains c ⟨id, id⟩

theorem State.beginEntry_retains (s : State) (c : ChannelNo) (e : Entry) : Retains s (s.beginEntry c e) := by
  unfold State.beginEntry
  dsimp only
  split
  · exact (s.modChannel_retains c ⟨id, id⟩).trans (State.reportStart_retains _ _ _ _)
  · exact ((s.putClip_retains c _ _ _).trans (State.reportStart_retains _ _ _ _)).trans (State.fetchClip_retains _ _ _)

theorem State.restartEntry_retains (s : State) (c : ChannelNo) (e : Entry) : Retains s (s.restartEntry c e) := by
  unfold State.restartEntry
  split
  · exact ((s.putClip_retains c _ _ _).trans (State.reportRestart_retains _ _ _)).trans (State.fetchClip_retains _ _ _)
  · exact s.goQuiet_retains c

theorem choose_retains (n : Nat) (s : State) (c : ChannelNo) : Retains s (choose n s c) := by
  induction n generalizing s with
  | zero => exact s.goQuiet_retains c
  | succ n ih =>
    have popped := s.popContext_retains c
    unfold choose
    split
    · split
      · exact (s.reportUnheard_retains _ _).trans (ih _)
      · split
        · exact s.beginEntry_retains c _
        · exact s.goQuiet_retains c
    · split
      · split
        · split
          · exact popped.trans (State.restartEntry_retains _ _ _)
          · exact popped.trans (ih _)
        · exact popped.trans (ih _)
      · split
        · exact popped.trans (State.takeUpChain_retains _ _ _ _ _ _)
        · exact popped.trans (ih _)
      · exact s.goQuiet_retains c

theorem State.advance_retains (s : State) (c : ChannelNo) : Retains s (s.advance c) := by
  unfold State.advance
  split
  · split
    · exact s.setPlayhead_retains _ _
    · exact s.setPlayhead_retains _ _
    · exact .refl s
    · split
      · exact s.setPlayhead_retains _ _
      · split
        · exact s.enterGroup_retains _ _ _ _ _
        · exact s.setPlayhead_retains _ _
        · exact s.setPlayhead_retains _ _
  · exact s.setPlayhead_retains _ _
  · exact .refl s
  · exact .refl s

/-- The buffer of a block taken, and a buffer gone stale, go back to the reader (R71, R72). -/
theorem State.playBlock_retains (s : State) (c : ChannelNo) : Retains s (s.playBlock c) := by
  unfold State.playBlock
  dsimp only
  refine Retains.trans ?_ ((State.advance_retains _ c).trans
    (State.modChannel_retains _ c (ChannelRec.spares_returnStale _)))
  split
  · have emptied := (s.channel c).spares_setBuf (s.channel c).toggle (b := Buffer.empty) rfl
    exact s.modChannel_retains c ⟨emptied.x, emptied.y⟩
  · refine Retains.trans ?_ (State.modChannel_retains _ c ⟨id, id⟩)
    split
    · exact .still rfl rfl rfl rfl
    · exact .refl s

theorem State.play_retains (s : State) (c : ChannelNo) (began : Bool) : Retains s (s.play c began) := by
  have put (o : Output) : Retains s (s.modChannel c fun ch => { ch with output := o }) :=
    s.modChannel_retains c ⟨id, id⟩
  have block :
      Retains s (if began then s.modChannel c fun ch => { ch with output := .silence } else s.playBlock c) := by
    split
    · exact put _
    · exact s.playBlock_retains c
  unfold State.play
  dsimp only
  split
  · exact put _
  · exact put _
  · exact block
  · exact block
  · exact block

theorem State.settleChannel_retains (s : State) (c : ChannelNo) : Retains s (s.settleChannel c) := by
  have judged := s.judgeItem_retains c
  unfold State.settleChannel
  dsimp only
  split
  · refine Retains.trans ?_ ((State.play_retains _ c _).trans (State.modChannel_retains _ c ⟨id, id⟩))
    split
    · exact judged.trans (choose_retains _ _ _)
    · exact judged
  · exact .refl s

theorem blockBoundary_retains (s : State) : Retains s (blockBoundary s) := by
  have reached : Retains s (s.reach s.engine.nextBoundary) := .still rfl rfl rfl rfl
  have settled := reached.trans (Retains.foldl State.settleChannel State.settleChannel_retains (List.finRange 12) _)
  unfold blockBoundary State.forChannels
  dsimp only
  generalize List.foldl State.settleChannel _ _ = t at settled ⊢
  exact settled.trans (.still rfl rfl rfl rfl)

/-! ## The enabled set, the census and LISTENED (R66, R67, R76, R119, R157 to R161) -/

theorem State.settleDisable_retains (s : State) (c : ChannelNo) : Retains s (s.settleDisable c) := by
  have ended := fun t : State => (t.channel c).spares_endItem
  unfold State.settleDisable
  dsimp only
  refine Retains.trans ?_ ((Retains.foldl _ (fun t k => ?_) _ _).trans
    (State.modChannel_retains _ c ⟨(ended _).x, (ended _).y⟩))
  · split
    · exact s.reportDisabled_retains _ _
    · exact s.reportDisabled_retains _ _
    · exact .refl s
    · exact .refl s
  · split
    · exact t.reportDiscarded_retains _ _
    · exact .refl t

theorem State.engineEnable_retains (s : State) (set : ChannelSet) : Retains s (s.engineEnable set) :=
  Retains.foldl _ (fun s c => by
    split
    · exact s.modChannel_retains c ⟨id, id⟩
    · split
      · exact s.settleDisable_retains c
      · exact .refl s) _ s

theorem State.judgeListened_spares (s : State) (c : ChannelNo) :
    (s.channel c).Spares (s.judgeListened.channel c) := by
  rw [State.judgeListened_channel]
  split
  · exact .refl _
  · exact ChannelRec.spares_setListened _ _

theorem State.judgeListened_retains (s : State) : Retains s s.judgeListened :=
  .of_spares rfl rfl rfl s.judgeListened_spares

theorem State.recount_retains (s : State) : Retains s s.recount := by
  have counted : Retains s { s with roster := { s.roster with census := vtab fun c => s.roster.count c } } :=
    .still rfl rfl rfl rfl
  exact counted.trans (State.judgeListened_retains _)

theorem State.seatEvent_retains (s : State) (changed : Bool) : Retains s (s.seatEvent changed) := by
  cases changed
  · exact .refl s
  · exact .still rfl rfl rfl rfl

theorem State.putSeat_retains (s : State) (i : SeatNo) (y : Seat) : Retains s (s.putSeat i y) := by
  unfold State.putSeat
  refine Retains.trans ?_ (State.seatEvent_retains _ _)
  refine Retains.trans ?_ (State.recount_retains _)
  exact .still rfl rfl rfl rfl

end Engine

/-! ## Scenes, fades, the converter and the overrides (R166 to R178) -/

section Lights
variable (s : State)

theorem State.applyScene_retains (k : Fin 16) : Retains s (s.applyScene k) :=
  .of_lights rfl rfl rfl fun h => h.applyScene k

theorem sceneRequest_retains (a : Args) : Retains s (sceneRequest s a) := by
  unfold sceneRequest
  split
  · exact (s.applyScene_retains _).trans (State.answer_retains _ _ _ _)
  · exact s.answer_retains _ _ _

theorem pwmPeriodStart_retains : Retains s (pwmPeriodStart s) :=
  .of_lights rfl rfl rfl fun h => h.applyPending _

theorem fadeStep_retains : Retains s (fadeStep s) :=
  .of_lights rfl rfl rfl fun h => { h.fade with settled := h.fade.settled }

theorem conversionStart_retains : Retains s (conversionStart s) :=
  .of_lights rfl rfl rfl fun h => h.convert _ _ _ _

theorem conversionComplete_retains (sample : BitVec 10) : Retains s (conversionComplete s sample) := by
  unfold conversionComplete
  split
  · exact .of_lights rfl rfl rfl fun h => (h.convert _ _ _ _).advanceCandidate _
  · exact .refl s

theorem flashHalfPeriodExpiry_retains : Retains s (flashHalfPeriodExpiry s) := by
  unfold flashHalfPeriodExpiry
  split
  · next ht => exact .of_lights rfl rfl rfl fun h => h.nextHalfPeriod (by simp [ht]) _ _
  · exact .refl s

theorem flashChange_retains : Retains s (flashChange s) := by
  unfold flashChange
  split
  · exact .of_lights rfl rfl rfl fun h => h.takeFlash _ _
  · exact .refl s

theorem safetyChange_retains : Retains s (safetyChange s) := by
  unfold safetyChange
  split
  · exact .of_lights rfl rfl rfl fun h => h.takeSafety _
  · exact .refl s

end Lights

/-! ## The poll cycle, replies and misses (R131 to R142) -/

/-- What a segment controller keeps (R131, R132). -/
structure Segment.Lawful (x : Segment) : Prop where
  cursor : x.cursor < 16
  cycleCount : x.cycleCount < 8
  polled : x.poll.isSome → x.inCycle = true

theorem bus_iff (s : State) :
    Safety.Bus s ↔ (∀ g, (s.segment g).Lawful) ∧ ∀ i, Safety.stationLawful (s.station i) = true :=
  and_congr_left fun _ => forall_congr' fun _ =>
    ⟨fun ⟨cursor, cycleCount, polled⟩ => ⟨cursor, cycleCount, polled⟩, fun h => ⟨h.cursor, h.cycleCount, h.polled⟩⟩

/-- A good reply takes a lawful record to a lawful one (R135). -/
theorem Station.goodReply_lawful {x : Station} (h : Safety.stationLawful x = true) (m : Reply) :
    Safety.stationLawful (x.goodReply m).1 = true := by
  obtain ⟨state, misses, baseline, fault⟩ := x
  cases state with
  | absent => rfl
  | joining =>
    have hm : misses = 0 := of_decide_eq_true h
    simp [Station.goodReply, Safety.stationLawful, hm]
  | present => rfl
  | lost => rfl

/-- So does a miss (R136, R137). -/
theorem Station.missed_stationLawful {x : Station} (h : Safety.stationLawful x = true) :
    Safety.stationLawful x.missed = true := by
  obtain ⟨state, misses, baseline, fault⟩ := x
  cases state with
  | absent => exact h
  | joining => rfl
  | present => by_cases hm : misses + 1 < 3 <;> simp [Station.missed, Safety.stationLawful, hm]
  | lost => by_cases hm : misses + 1 < 32 <;> simp [Station.missed, Station.gone, Safety.stationLawful, hm]

section Bus
variable {s : State} {g : SegmentNo}

/-- One segment controller has worked. -/
theorem State.modSegment_bus (hs : Safety.Bus s) {f : Segment → Segment} (h : (f (s.segment g)).Lawful) :
    Safety.Bus (s.modSegment g f) := by
  obtain ⟨segments, stations⟩ := (bus_iff s).mp hs
  refine (bus_iff _).mpr ⟨fun k => ?_, stations⟩
  by_cases hk : k = g
  · subst hk; rwa [State.modSegment_segment_self]
  · rw [State.modSegment_segment_ne _ _ _ _ hk]; exact segments k

@[simp] theorem State.moveCursor_reader (s : State) (g : SegmentNo) (a : Nat) :
    (s.moveCursor g a).reader = s.reader := by
  unfold State.moveCursor; split <;> rfl

@[simp] theorem State.moveCursor_lights (s : State) (g : SegmentNo) (a : Nat) :
    (s.moveCursor g a).lights = s.lights := by
  unfold State.moveCursor; split <;> rfl

@[simp] theorem State.moveCursor_engine (s : State) (g : SegmentNo) (a : Nat) :
    (s.moveCursor g a).engine = s.engine := by
  unfold State.moveCursor; split <;> rfl

/-- The cursor moves to an address below 16, or to 0 with no poll left in flight (R131). -/
theorem State.moveCursor_bus (hs : Safety.Bus s) (hp : (s.segment g).poll = none) {a : Nat} (ha : a ≤ 16) :
    Safety.Bus (s.moveCursor g a) := by
  obtain ⟨segments, -⟩ := (bus_iff s).mp hs
  obtain ⟨cursor, cycleCount, polled⟩ := segments g
  unfold State.moveCursor
  split
  · next b hb =>
    obtain ⟨found, -⟩ := nextPolled_spec s g (s.segment g).cycleCount (16 - a) a
    obtain ⟨-, hlt, -, -⟩ := found b hb
    exact State.modSegment_bus hs ⟨by dsimp only; omega, cycleCount, polled⟩
  · exact State.modSegment_bus hs ⟨Nat.zero_lt_succ 15, Nat.mod_lt _ (by decide), by simp [hp]⟩

/-- Between two cycles no poll is in flight, so one may begin (R131). -/
theorem cycleStart_retains (s : State) (g : SegmentNo) : Retains s (cycleStart g s) := by
  unfold cycleStart
  dsimp only
  split
  · exact .refl s
  · next hidle =>
    generalize ht : (s.reach _).reach _ = t
    have reached : Retains s t := ht ▸ .still rfl rfl rfl rfl
    replace hidle : ¬(t.segment g).inCycle = true := by subst ht; exact hidle
    refine reached.trans (.of_bus (by simp) (by simp) (by simp) fun hs => ?_)
    obtain ⟨segments, -⟩ := (bus_iff t).mp hs
    obtain ⟨cursor, cycleCount, polled⟩ := segments g
    have hp : (t.segment g).poll = none := by
      by_contra hsome
      exact hidle (polled (Option.isSome_iff_ne_none.mpr hsome))
    refine State.moveCursor_bus (State.modSegment_bus hs ⟨cursor, cycleCount, fun _ => rfl⟩) ?_ (Nat.zero_le _)
    rw [State.modSegment_segment_self]
    exact hp

/-- A poll is sent within a cycle (R132). -/
theorem poll_retains (s : State) (g : SegmentNo) : Retains s (poll g s) := by
  unfold poll
  dsimp only
  split
  · next hready =>
    refine .of_bus rfl rfl rfl fun hs => ?_
    obtain ⟨segments, -⟩ := (bus_iff s).mp hs
    exact State.modSegment_bus hs ⟨(segments g).cursor, (segments g).cycleCount, fun _ => hready.1⟩
  · exact .refl s

/-- The poll ends before the cursor moves on (R132). -/
theorem State.endPoll_retains (s : State) (g : SegmentNo) : Retains s (s.endPoll g) := by
  unfold State.endPoll
  refine .of_bus (by simp) (by simp) (by simp) fun hs => ?_
  obtain ⟨segments, -⟩ := (bus_iff s).mp hs
  obtain ⟨cursor, cycleCount, -⟩ := segments g
  refine State.moveCursor_bus (State.modSegment_bus hs ⟨cursor, cycleCount, by simp⟩) ?_ cursor
  rw [State.modSegment_segment_self]

/-- A station's record is replaced by one that is lawful if the record before was. -/
theorem State.putStation_retains (s : State) (i : SeatNo) {y : Station}
    (hy : Safety.stationLawful (s.station i) = true → Safety.stationLawful y = true) :
    Retains s (s.putStation i y) := by
  have replaced : Retains s (s.modStation i fun _ => y) := .of_bus rfl rfl rfl fun hs => by
    obtain ⟨segments, stations⟩ := (bus_iff s).mp hs
    refine (bus_iff _).mpr ⟨segments, fun j => ?_⟩
    by_cases hj : j = i
    · subst hj; rw [State.modStation_station_self]; exact hy (stations j)
    · rw [State.modStation_station_ne _ _ _ _ hj]; exact stations j
  unfold State.putStation
  dsimp only
  split
  · exact replaced
  · exact replaced.trans (State.raise_retains _ _)

theorem State.takeReport_retains (s : State) (i : SeatNo) (m : Report) : Retains s (s.takeReport i m) :=
  s.putSeat_retains _ _

theorem State.goodReply_retains (s : State) (i : SeatNo) (m : Reply) : Retains s (s.goodReply i m) :=
  (s.putStation_retains i fun h => Station.goodReply_lawful h m).trans (State.takeReport_retains _ _ _)

theorem State.miss_retains (s : State) (i : SeatNo) : Retains s (s.miss i) := by
  have put := s.putStation_retains i Station.missed_stationLawful
  unfold State.miss
  dsimp only
  split
  · exact put
  · split
    · exact put.trans (State.takeReport_retains _ _ _)
    · exact put.trans (State.takeReport_retains _ _ _)

theorem reply_retains (s : State) (g : SegmentNo) (bytes : Vector Byte 4) : Retains s (reply s g bytes) := by
  unfold reply
  dsimp only
  split
  · exact .refl s
  · next p _ =>
    have reached : Retains s (s.reach (p.opens + replyTime)) := .still rfl rfl rfl rfl
    refine Retains.trans ?_ (State.endPoll_retains _ g)
    split
    · exact reached.trans (State.goodReply_retains _ _ _)
    · have counted : Retains s ((s.reach (p.opens + replyTime)).countFraming g) := .still rfl rfl rfl rfl
      exact counted.trans (State.miss_retains _ _)

theorem replyWindowExpiry_retains (s : State) (g : SegmentNo) (received : Nat) :
    Retains s (replyWindowExpiry s g received) := by
  unfold replyWindowExpiry
  dsimp only
  split
  · exact .refl s
  · refine Retains.trans (Retains.trans ?_ (State.miss_retains _ _)) (State.endPoll_retains _ g)
    split
    · exact .still rfl rfl rfl rfl
    · exact .still rfl rfl rfl rfl

end Bus

/-! ## The store reader (R45, R46, R55 to R63) -/

section Store
variable (s : State)

/-- A header that is good gives values in range, and one that is bad gives none (R45). -/
theorem judgeHeader_spec (b : Vector Byte 64) :
    if (judgeHeader b).1 = .none then
      130 ≤ (judgeHeader b).2.1 ∧ (judgeHeader b).2.1 ≤ 32768 ∧ 1 ≤ (judgeHeader b).2.2 ∧ (judgeHeader b).2.2 ≤ 1024
    else (judgeHeader b).2.1 = 0 ∧ (judgeHeader b).2.2 = 0 := by
  unfold judgeHeader
  dsimp only
  split
  · simp
  · split
    · simp
    · split
      · simp
      · split
        · simp
        · simp only [if_true]
          omega

/-- A read that has completed fills no buffer. -/
theorem reader_of_done {s t : State} (hs : Safety.Reader s) (hr : t.reader = { s.reader with inFlight := none }) :
    Safety.Reader t := by
  obtain ⟨-, header⟩ := hs
  unfold Safety.Reader
  rw [hr]
  exact ⟨nofun, header⟩

theorem State.readDone_retains (r : Read) : Retains s (s.readDone r) :=
  .of_reader rfl rfl fun hs => reader_of_done hs rfl

/-- The buffer that the read is to fill is granted to the reader as it starts (R61). -/
theorem State.startFor_retains (c : ChannelNo) : Retains s (s.startFor c) := by
  unfold State.startFor
  dsimp only
  split
  · refine .of_reader rfl rfl fun ⟨_, header⟩ => ⟨fun r hr => ?_, header⟩
    obtain rfl := Option.some.inj hr
    rfl
  · split
    · refine .of_reader rfl rfl fun ⟨_, header⟩ => ⟨fun r hr => ?_, header⟩
      obtain rfl := Option.some.inj hr
      unfold State.startAudio
      refine decide_eq_true ?_
      rw [State.modChannel_channel_self, ChannelRec.buf_setBuf_self]
    · exact .refl s

theorem readStart_retains : Retains s (readStart s) := by
  unfold readStart
  split
  · exact .refl s
  · split
    · exact s.startFor_retains _
    · exact .refl s

theorem headerReadComplete_retains (bytes : Vector Byte 64) : Retains s (headerReadComplete s bytes) := by
  have spec := judgeHeader_spec bytes
  unfold headerReadComplete
  split
  · split
    · refine .of_reader rfl rfl fun _ => ⟨nofun, ?_⟩
      by_cases hgood : (judgeHeader bytes).1 = .none
      · simpa [hgood] using spec
      · simpa [hgood] using spec
    · exact .refl s
    · exact .refl s
  · exact .refl s

theorem directoryFetchComplete_retains (bytes : Vector Byte 64) : Retains s (directoryFetchComplete s bytes) := by
  unfold directoryFetchComplete
  split
  · next r _ =>
    have done := s.readDone_retains r
    split
    · dsimp only
      split
      · exact done.trans (State.takeRecord_retains _ _ _)
      · exact done
      · exact done
    · exact .refl s
    · exact .refl s
  · exact .refl s

/-- The buffer becomes the player's when no read fills it any more (R62). -/
theorem audioReadComplete_retains (bytes : Vector Byte 512) : Retains s (audioReadComplete s bytes) := by
  unfold audioReadComplete
  split
  · split
    · exact .of_reader rfl rfl fun hs => reader_of_done hs rfl
    · exact .refl s
    · exact .refl s
  · exact .refl s

end Store

/-! ## Metres walked and cues fired (R5, R9 to R15, R33, R35) -/

section Route
variable (s : State)

theorem State.fireCue_retains (q : CueSlot) (trip : Nat) : Retains s (s.fireCue q trip) := by
  unfold State.fireCue
  split
  · split
    · exact s.takeCommentaryCue_retains _ _
    · exact s.cueDropped_retains
  · exact s.takeQuietCue_retains _
  · split
    · exact s.cueDropped_retains
    · exact s.takeAnnounceCue_retains _ _
  · exact s.applyScene_retains _
  · exact .still rfl rfl rfl rfl
  · exact .refl s

theorem fireThrough_retains (n q trip : Nat) : Retains s (fireThrough n s q trip) := by
  induction n generalizing s with
  | zero => exact .refl s
  | succ n ih =>
    unfold fireThrough
    dsimp only
    split
    · next slot _ =>
      split
      · have pointed : Retains s { s with script := { s.script with pointer := s.script.pointer + 1 } } :=
          .still rfl rfl rfl rfl
        exact (pointed.trans (State.fireCue_retains _ slot trip)).trans (ih _)
      · exact .refl s
    · exact .refl s

theorem State.judgeLate_retains : Retains s s.judgeLate := by
  unfold State.judgeLate
  split
  · split
    · exact .still rfl rfl rfl rfl
    · exact .refl s
  · exact .refl s

theorem State.offer_retains (wrapped : Bool) (trip : Nat) : Retains s (s.offer wrapped trip) := by
  unfold State.offer
  split
  · have pointed : Retains s { s with script := { s.script with pointer := 0 } } := .still rfl rfl rfl rfl
    exact (pointed.trans (fireThrough_retains _ _ 0 trip)).trans (State.judgeLate_retains _)
  · exact fireThrough_retains s _ _ trip

theorem State.odometerAdvance_retains : Retains s s.odometerAdvance := by
  unfold State.odometerAdvance
  dsimp only
  generalize ht : ({ s with route := _ } : State) = t
  have moved : Retains s t := ht ▸ .still rfl rfl rfl rfl
  have offered := (moved.trans t.judgeTrip_retains).trans
    (State.offer_retains _ s.route.wraps t.judgeTrip.route.trip)
  generalize t.judgeTrip.offer s.route.wraps t.judgeTrip.route.trip = u at offered ⊢
  split
  · exact offered.trans (.still rfl rfl rfl rfl)
  · exact offered

theorem odometerPulse_retains : Retains s (odometerPulse s) := by
  unfold odometerPulse
  split
  · exact .still rfl rfl rfl rfl
  · have cleared : Retains s { s with route := { s.route with prescaler := 0 } } := .still rfl rfl rfl rfl
    exact cleared.trans (State.odometerAdvance_retains _)

theorem catchUp_retains (n trip : Nat) : Retains s (catchUp n s trip) := by
  induction n generalizing s trip with
  | zero => exact .refl s
  | succ n ih =>
    have moved : Retains s { s with route := s.route.forward } := .still rfl rfl rfl rfl
    have walked : Retains s (s.walkStep (tripAdd trip 1)) := moved.trans (State.offer_retains _ _ _)
    unfold catchUp
    dsimp only
    generalize s.walkStep (tripAdd trip 1) = t at walked ⊢
    split
    · exact walked.trans (.still rfl rfl rfl rfl)
    · exact walked.trans (ih t _)

theorem State.freshFix_retains : Retains s s.freshFix := by
  unfold State.freshFix
  dsimp only
  split <;> exact .still rfl rfl rfl rfl

theorem State.moveTo_retains (q : Nat) : Retains s (s.moveTo q) := by
  unfold State.moveTo
  dsimp only
  split
  · exact .refl s
  · split
    · generalize ht : ({ s with route := _ } : State) = t
      have moved : Retains s t := ht ▸ .still rfl rfl rfl rfl
      exact (moved.trans t.judgeTrip_retains).trans (catchUp_retains _ _ _)
    · exact .still rfl rfl rfl rfl

theorem State.applyLap_retains (lap : Option Nat) : Retains s (s.applyLap lap) := by
  cases lap <;> exact .still rfl rfl rfl rfl

theorem fixRequest_retains (a : Args) : Retains s (fixRequest s a) := by
  unfold fixRequest
  split
  · exact s.answer_retains _ _ _
  · split
    · exact s.answer_retains _ _ _
    · exact ((s.freshFix_retains.trans (State.moveTo_retains _ _)).trans (State.applyLap_retains _ _)).trans
        (State.answer_retains _ _ _ _)

theorem fixTimerExpiry_retains : Retains s (fixTimerExpiry s) := by
  unfold fixTimerExpiry
  split <;> exact .still rfl rfl rfl rfl

theorem speedWindowEnd_retains : Retains s (speedWindowEnd s) := by
  unfold speedWindowEnd
  dsimp only
  split <;> exact .still rfl rfl rfl rfl

end Route

/-! ## The requests of the script unit, the queue and the roster (R22 to R30, R94, R106 to R118, R151, R152, R160) -/

section Requests
variable (s : State) (p : Port) (a : Args)

theorem claimShadowRequest_retains : Retains s (claimShadowRequest p s a) := by
  unfold claimShadowRequest
  split <;> exact .still rfl rfl rfl rfl

theorem releaseShadowRequest_retains : Retains s (releaseShadowRequest p s a) := by
  unfold releaseShadowRequest
  split <;> exact .still rfl rfl rfl rfl

theorem switchRequest_retains : Retains s (switchRequest p s a) := by
  unfold switchRequest
  split
  · exact s.answer_retains _ _ _
  · split
    · exact s.answer_retains _ _ _
    · dsimp only
      split
      · exact s.answer_retains _ _ _
      · split <;> exact .still rfl rfl rfl rfl

theorem cancelSwitchRequest_retains : Retains s (cancelSwitchRequest p s a) := by
  unfold cancelSwitchRequest
  split
  · exact s.answer_retains _ _ _
  · split <;> exact .still rfl rfl rfl rfl

theorem announceRequest_retains : Retains s (announceRequest p s a) := by
  have answered (r : ResultCode) : Retains s (s.answer p r 0) := s.answer_retains p r 0
  unfold announceRequest
  split
  · exact answered _
  · split
    · exact answered _
    · split
      · exact answered _
      · split
        · exact answered _
        · split
          · exact answered _
          · split
            · exact answered _
            · split
              · exact answered _
              · exact ((s.addEntry_retains _).trans (State.judgeTrip_retains _)).trans (State.answer_retains _ _ _ _)

theorem cancelRequest_retains : Retains s (cancelRequest s a) := by
  unfold cancelRequest
  dsimp only
  split
  · exact s.answer_retains _ _ _
  · split
    · exact s.answer_retains _ _ _
    · exact (s.cancelEntry_retains _).trans (State.answer_retains _ _ _ _)

theorem liveOnRequest_retains : Retains s (liveOnRequest s a) := by
  have answered (r : ResultCode) : Retains s (s.answer .crew r 0) := s.answer_retains .crew r 0
  unfold liveOnRequest
  split
  · exact answered _
  · split
    · exact answered _
    · split
      · exact answered _
      · split
        · exact answered _
        · split
          · exact answered _
          · have timed : Retains s
                { s with queue := { s.queue with liveTimer := some (s.now + s.queue.liveLimit * second) } } :=
              .still rfl rfl rfl rfl
            exact (timed.trans (State.addEntry_retains _ _)).trans (State.answer_retains _ _ _ _)

theorem liveOffRequest_retains : Retains s (liveOffRequest s a) := by
  unfold liveOffRequest
  split
  · exact s.answer_retains _ _ _
  · exact s.endLive_retains.trans (State.answer_retains _ _ _ _)

theorem liveTimerExpiry_retains : Retains s (liveTimerExpiry s) := by
  unfold liveTimerExpiry
  split
  · refine Retains.trans ?_ (State.endLive_retains _)
    exact .still rfl rfl rfl rfl
  · exact .refl s

theorem entryExpiryTimer_retains (id : Nat) : Retains s (entryExpiryTimer s id) := by
  unfold entryExpiryTimer
  split
  · split
    · next n _ =>
      have reached : Retains s (s.reach n) := .still rfl rfl rfl rfl
      exact reached.trans (State.takeExpiry_retains _ id)
    · exact .refl s
  · exact .refl s

theorem assignRequest_retains : Retains s (assignRequest s a) := by
  have answered : Retains s (s.answer .fare .badArgument 0) := s.answer_retains _ _ _
  unfold assignRequest
  dsimp only
  split
  · split
    · exact answered
    · split
      · exact answered
      · split
        · exact answered
        · exact (s.putSeat_retains _ _).trans (State.answer_retains _ _ _ _)
  · exact answered

theorem releaseRequest_retains : Retains s (releaseRequest s a) := by
  unfold releaseRequest
  split
  · exact (s.putSeat_retains _ _).trans (State.answer_retains _ _ _ _)
  · exact s.answer_retains _ _ _

theorem releaseAllRequest_retains : Retains s (releaseAllRequest s a) := by
  have freed : Retains s { s with roster := { s.roster with seats := vmap Seat.freed s.roster.seats } } :=
    .still rfl rfl rfl rfl
  exact ((freed.trans (State.recount_retains _)).trans (State.seatEvent_retains _ _)).trans
    (State.answer_retains _ _ _ _)

theorem lockIndicatorExpiry_retains (i : SeatNo) : Retains s (lockIndicatorExpiry s i) := by
  unfold lockIndicatorExpiry
  split <;> exact .still rfl rfl rfl rfl

theorem deckRequest_retains : Retains s (deckRequest s a) := by
  unfold deckRequest
  split
  · exact s.answer_retains _ _ _
  · split
    · exact s.answer_retains _ _ _
    · refine Retains.trans (Retains.trans ?_ (State.judgeListened_retains _)) (State.answer_retains _ _ _ _)
      exact .still rfl rfl rfl rfl

theorem channelEnableRequest_retains : Retains s (channelEnableRequest s a) := by
  unfold channelEnableRequest
  dsimp only
  split
  · exact s.answer_retains _ _ _
  · refine Retains.trans (Retains.trans (Retains.trans ?_ (State.recount_retains _)) (State.engineEnable_retains _ _))
      (State.queueDisable_retains _ _)
    exact .still rfl rfl rfl rfl

end Requests

/-! ## The ports (R182 to R200) -/

section Ports
variable (s : State) (p : Port)

theorem State.raiseOthers_retains (n : Notice) : Retains s (s.raiseOthers p n) := by
  cases p <;> exact .still rfl rfl rfl rfl

theorem State.endClaim_retains : Retains s (s.endClaim p) := by
  unfold State.endClaim
  split <;> exact .still rfl rfl rfl rfl

theorem State.dropHoldings_retains : Retains s (s.dropHoldings p) := by
  have ended := s.endClaim_retains p
  cases p with
  | crew => exact ended.trans (State.endLive_retains _)
  | route => exact ended
  | fare => exact ended

theorem State.clearPort_retains : Retains s (s.clearPort p) :=
  (s.modPort_retains p _).trans (State.dropHoldings_retains _ p)

theorem State.handOn_retains (k : RequestKind) : Retains s (s.handOn p k) := by
  unfold State.handOn
  split
  · exact .still rfl rfl rfl rfl
  · exact (s.clearPort_retains p).trans (.still rfl rfl rfl rfl)
  · exact s.modPort_retains p _

theorem State.go_retains : Retains s (s.go p) := by
  unfold State.go
  split
  · exact s.answer_retains _ _ _
  · split
    · exact s.handOn_retains p _
    · exact s.answer_retains _ _ _

theorem writeReqCode_retains (w : Word) : Retains s (writeReqCode p w s) := by
  have coded := s.modPort_retains p fun ps => { ps with reqCode := w.extractLsb' 0 6 }
  unfold writeReqCode
  dsimp only
  split
  · split
    · exact coded.trans (.still rfl rfl rfl rfl)
    · exact coded.trans (State.go_retains _ p)
  · exact coded

theorem transactionStart_retains (address : Option Byte) : Retains s (transactionStart s p address) := by
  have begun := s.modPort_retains p fun ps =>
    { ps with silent := false, transaction := addressed address, snapshot := none }.restartTimer s.now
  unfold transactionStart
  dsimp only
  split
  · exact begun.trans (State.raiseOthers_retains _ p _)
  · exact begun

theorem silenceTimerExpiry_retains : Retains s (silenceTimerExpiry s p) := by
  unfold silenceTimerExpiry
  split
  · refine Retains.trans (Retains.trans ?_ (State.dropHoldings_retains _ p)) (State.raiseOthers_retains _ p _)
    exact .still rfl rfl rfl rfl
  · exact .refl s

theorem prstAssert_retains : Retains s (prstAssert s p) := by
  unfold prstAssert
  split
  · exact .refl s
  · exact (s.modPort_retains p _).trans (State.clearPort_retains _ p)

theorem prstRelease_retains : Retains s (prstRelease s p) := by
  unfold prstRelease
  split
  · exact (s.modPort_retains p _).trans (.running (.still rfl rfl rfl rfl))
  · exact .refl s

end Ports

/-! ## Table writes (R65, R168, R175, R177, R189, R191) -/

section Tables
variable (s : State)

/-- A lighting setting in range leaves the lights in range, and every zone is settled anew (R167). -/
theorem State.writeLights_retains {f : Lights → Lights}
    (h : s.lights.Lawful → (f s.lights).InRange ∧ (f s.lights).flashTimer.isSome = (f s.lights).flashActive) :
    Retains s (s.writeLights f) :=
  .of_lights rfl rfl rfl fun hl => (h hl).1.recompute (h hl).2

/-- An accepted value of a scale is at most 256 (R191). -/
theorem Lights.Lawful.withScales {l : Lights} (h : l.Lawful) {day dusk night : Nat} (hday : day ≤ 256)
    (hdusk : dusk ≤ 256) (hnight : night ≤ 256) :
    ({ l with dayScale := day, duskScale := dusk, nightScale := night } : Lights).InRange :=
  { h with
    scale := fun a => by
      cases a
      · exact hday
      · exact hdusk
      · exact hnight }

theorem writeSetting_retains {n : Nat} {w : Word} (hv : settingValueOk n w.toNat = true) :
    Retains s (writeSetting s n w) := by
  unfold writeSetting
  dsimp only
  split
  case h_8 => exact .of_reader rfl rfl id
  case h_13 | h_15 | h_16 =>
    exact .of_lights rfl rfl rfl fun h => { h with settled := h.settled }
  case h_14 => exact s.writeLights_retains fun h => ⟨{ h with }, h.timed⟩
  case h_17 =>
    exact s.writeLights_retains fun h => ⟨h.withScales (of_decide_eq_true hv) (h.scale .dusk) (h.scale .night), h.timed⟩
  case h_18 =>
    exact s.writeLights_retains fun h => ⟨h.withScales (h.scale .day) (of_decide_eq_true hv) (h.scale .night), h.timed⟩
  case h_19 =>
    exact s.writeLights_retains fun h => ⟨h.withScales (h.scale .day) (h.scale .dusk) (of_decide_eq_true hv), h.timed⟩
  all_goals exact .still rfl rfl rfl rfl

theorem writeTable_retains {t : Table} {n : Nat} {w : Word} (hv : valueOk t n w = true) :
    Retains s (writeTable s t n w) := by
  cases t with
  | settings => exact writeSetting_retains s hv
  | shadow => exact .still rfl rfl rfl rfl
  | channels =>
    show Retains s (writeLabel s n w)
    unfold writeLabel
    split
    · exact s.modChannel_retains _ ⟨id, id⟩
    · exact .refl s
  | scenes =>
    show Retains s (writeSceneWord s n w)
    unfold writeSceneWord
    split
    · exact .of_lights rfl rfl rfl fun h => h.storeScene _ _ _
    · exact .refl s
  | active => exact .refl s
  | seats => exact .refl s
  | queue => exact .refl s
  | counters => exact .refl s
  | capture => exact .refl s

/-- A write that passes has a value of its field (R189). -/
theorem valueOk_of_judgeWrite {s : State} {p : Port} {t : Table} {n : Nat} {w : Word}
    (h : judgeWrite s p t n w = .ok) : valueOk t n w = true := by
  by_contra hv
  have hfalse := Bool.eq_false_iff.mpr hv
  unfold judgeWrite at h
  rw [if_pos hfalse] at h
  split at h
  · cases h
  · split at h
    · cases h
    · split at h <;> cases h

theorem tblDataWrite_retains (p : Port) (w : Word) : Retains s (tblDataWrite p w s) := by
  unfold tblDataWrite
  dsimp only
  refine Retains.trans ?_ (State.modPort_retains _ p _)
  split
  · next hok => exact writeTable_retains s (valueOk_of_judgeWrite hok)
  · exact .refl s

theorem writeRegister_retains (p : Port) (n : BitVec 6) (w : Word) : Retains s (writeRegister p n w s) := by
  have ported (f : PortState → PortState) : Retains s (s.modPort p f) := s.modPort_retains p f
  unfold writeRegister
  split
  · exact ported _
  · exact ported _
  · exact ported _
  · exact writeReqCode_retains s p w
  · exact ported _
  · exact ported _
  · exact ported _
  · exact ported _
  · exact ported _
  · exact ported _
  · exact tblDataWrite_retains s p w
  · exact .refl s

end Tables

/-! ## Device reset (R64, R147, R179, R198) -/

/-- Under RESET# no read is in flight, every cursor and miss count is 0, and the lights stand at their reset values. -/
theorem deviceReset_retains (s : State) : Retains s (deviceReset s) where
  reader _ := ⟨nofun, rfl, rfl⟩
  bus _ := by
    have hsegment (g : SegmentNo) : (deviceReset s).segment g = Segment.reset := by
      simp [State.segment, deviceReset, State.held, SeatBus.reset]
    have hstation (i : SeatNo) : (deviceReset s).station i = Station.reset := by
      simp [State.station, deviceReset, State.held, SeatBus.reset]
    refine (bus_iff _).mpr ⟨fun g => ?_, fun i => ?_⟩
    · rw [hsegment]
      exact ⟨by decide, by decide, nofun⟩
    · rw [hstation]
      rfl
  lights _ := Lights.lawful_reset

/-- The header read, a cycle on every segment and a conversion begin (R45, R147, R172). -/
theorem resetRelease_retains (s : State) : Retains s (resetRelease s) := by
  unfold resetRelease
  split
  · refine ⟨fun ⟨_, header⟩ => ⟨fun r hr => ?_, header⟩, fun hs => ?_, fun h => { h with settled := h.settled }⟩
    · obtain rfl := Option.some.inj hr
      rfl
    · obtain ⟨segments, stations⟩ := (bus_iff s).mp hs
      refine (bus_iff _).mpr ⟨fun g => ?_, stations⟩
      simp only [State.segment, Fin.getElem_fin, vmap_get]
      exact ⟨(segments g).cursor, (segments g).cycleCount, fun _ => rfl⟩
  · exact .refl s

/-! ## Every command -/

/-- Every command has a next state, and retains what is lawful in it. -/
theorem exec_retains (s : State) (i : Instr) : ∃ t, exec i s = .next t ∧ Retains s t := by
  cases i with
  | deviceReset => exact ⟨_, rfl, deviceReset_retains s⟩
  | resetRelease => exact ⟨_, rfl, resetRelease_retains s⟩
  | odometerPulse => exact ⟨_, rfl, .running (odometerPulse_retains s)⟩
  | fix => exact ⟨_, rfl, .taking fun a => fixRequest_retains s a⟩
  | fixTimerExpiry => exact ⟨_, rfl, fixTimerExpiry_retains s⟩
  | speedWindowEnd => exact ⟨_, rfl, .running (speedWindowEnd_retains s)⟩
  | claimShadow p => exact ⟨_, rfl, .taking fun a => claimShadowRequest_retains s p a⟩
  | releaseShadow p => exact ⟨_, rfl, .taking fun a => releaseShadowRequest_retains s p a⟩
  | switch p => exact ⟨_, rfl, .taking fun a => switchRequest_retains s p a⟩
  | cancelSwitch p => exact ⟨_, rfl, .taking fun a => cancelSwitchRequest_retains s p a⟩
  | readStart => exact ⟨_, rfl, .running (readStart_retains s)⟩
  | headerReadComplete bytes => exact ⟨_, rfl, headerReadComplete_retains s bytes⟩
  | directoryFetchComplete bytes => exact ⟨_, rfl, directoryFetchComplete_retains s bytes⟩
  | audioReadComplete bytes => exact ⟨_, rfl, audioReadComplete_retains s bytes⟩
  | blockBoundary => exact ⟨_, rfl, .running (blockBoundary_retains s)⟩
  | announce p => exact ⟨_, rfl, .taking fun a => announceRequest_retains s p a⟩
  | cancel => exact ⟨_, rfl, .taking fun a => cancelRequest_retains s a⟩
  | liveOn => exact ⟨_, rfl, .taking fun a => liveOnRequest_retains s a⟩
  | liveOff => exact ⟨_, rfl, .taking fun a => liveOffRequest_retains s a⟩
  | entryExpiryTimer id => exact ⟨_, rfl, entryExpiryTimer_retains s id⟩
  | liveTimerExpiry => exact ⟨_, rfl, liveTimerExpiry_retains s⟩
  | scene => exact ⟨_, rfl, .taking fun a => sceneRequest_retains s a⟩
  | deck => exact ⟨_, rfl, .taking fun a => deckRequest_retains s a⟩
  | channelEnable => exact ⟨_, rfl, .taking fun a => channelEnableRequest_retains s a⟩
  | assign => exact ⟨_, rfl, .taking fun a => assignRequest_retains s a⟩
  | release => exact ⟨_, rfl, .taking fun a => releaseRequest_retains s a⟩
  | releaseAll => exact ⟨_, rfl, .taking fun a => releaseAllRequest_retains s a⟩
  | clearCounters p => exact ⟨_, rfl, .written (writeReqCode_retains s p _)⟩
  | clearCapture p => exact ⟨_, rfl, .taking (f := clearCaptureRequest p s) fun _ => .still rfl rfl rfl rfl⟩
  | portReset p => exact ⟨_, rfl, .written (writeReqCode_retains s p _)⟩
  | prstAssert p => exact ⟨_, rfl, prstAssert_retains s p⟩
  | prstRelease p => exact ⟨_, rfl, prstRelease_retains s p⟩
  | transactionStart o => exact ⟨_, rfl, .linked (transactionStart_retains s o.port o.address)⟩
  | transactionEnd p => exact ⟨_, rfl, .linked (s.modPort_retains p _)⟩
  | silenceTimerExpiry p => exact ⟨_, rfl, silenceTimerExpiry_retains s p⟩
  | registerWrite p reg w => exact ⟨_, rfl, .written (writeRegister_retains s p reg w)⟩
  | noticesWrite p w => exact ⟨_, rfl, .written (s.modPort_retains p _)⟩
  | noticeMaskWrite p w => exact ⟨_, rfl, .written (s.modPort_retains p _)⟩
  | portStatusWrite p w => exact ⟨_, rfl, .written (s.modPort_retains p _)⟩
  | tblSelectWrite p w => exact ⟨_, rfl, .written (s.modPort_retains p _)⟩
  | tblDataRead p completed =>
    refine ⟨_, rfl, .linked ?_⟩
    split
    · exact .still rfl rfl rfl rfl
    · exact .refl s
    · exact .refl s
    · exact .refl s
  | tblDataWrite p w => exact ⟨_, rfl, .written (tblDataWrite_retains s p w)⟩
  | positionRead p =>
    refine ⟨_, rfl, .linked ?_⟩
    split
    · exact s.modPort_retains p _
    · exact .refl s
  | cycleStart g => exact ⟨_, rfl, .running (cycleStart_retains s g)⟩
  | poll g => exact ⟨_, rfl, .running (poll_retains s g)⟩
  | reply g bytes => exact ⟨_, rfl, reply_retains s g bytes⟩
  | replyWindowExpiry g received => exact ⟨_, rfl, replyWindowExpiry_retains s g received⟩
  | lockIndicatorExpiry seat => exact ⟨_, rfl, lockIndicatorExpiry_retains s seat⟩
  | pwmPeriodStart => exact ⟨_, rfl, .running (pwmPeriodStart_retains s)⟩
  | fadeStep => exact ⟨_, rfl, .running (fadeStep_retains s)⟩
  | conversionStart => exact ⟨_, rfl, .running (conversionStart_retains s)⟩
  | conversionComplete sample => exact ⟨_, rfl, conversionComplete_retains s sample⟩
  | flashHalfPeriodExpiry => exact ⟨_, rfl, flashHalfPeriodExpiry_retains s⟩
  | flashChange => exact ⟨_, rfl, flashChange_retains s⟩
  | safetyChange => exact ⟨_, rfl, safetyChange_retains s⟩

/-- A step idles or runs the front command, and either retains what is lawful. -/
theorem step_retains {s t : State} (h : step s = .next t) : Retains s t := by
  cases hp : s.pending with
  | nil =>
    obtain rfl : s.tick = t := by simpa [step, hp] using h
    exact .still rfl rfl rfl rfl
  | cons i rest =>
    have queued : Retains s { s with pending := rest } := .still rfl rfl rfl rfl
    obtain ⟨u, hu, retained⟩ := exec_retains { s with pending := rest } i
    obtain rfl : u = t := by simpa [step, hp, hu] using h
    exact queued.trans retained

/-- Settles O58: a step retains the lawful reader, the lawful bus and the lawful lights, each of itself. -/
theorem everyStepKeepsReaderBusAndZonesLawful : Obligations.EveryStepKeepsReaderBusAndZonesLawful := by
  intro s t hreader hbus hlevels hflash hstep
  have retained := step_retains hstep
  exact ⟨retained.reader hreader, retained.bus hbus,
    (Lights.lawful_iff t).mp (retained.lights ((Lights.lawful_iff s).mpr ⟨hlevels, hflash⟩))⟩

end Sys2Proof.Machine

/-!
PROOFS. The master ports (09_master_ports.md): what a written word leaves of its port's window, a GO while the engine is
BUSY (R185) and the ID register (R199).
-/
namespace Sys2Proof.Machine

/-! ## One port's window -/

theorem State.modPort_eq_withPort (s : State) (p : Port) (f : PortState → PortState) :
    s.modPort p f = Claims.withPort s p (f (s.port p)) := by
  cases p <;> rfl

theorem Claims.withPort_port (s : State) (p : Port) : Claims.withPort s p (s.port p) = s := by
  cases p <;> rfl

theorem Claims.withPort_modPort (s : State) (p : Port) (x : PortState) (f : PortState → PortState) :
    (Claims.withPort s p x).modPort p f = Claims.withPort s p (f x) := by
  cases p <;> rfl

theorem PortState.raise_of_not_held {ps : PortState} (n : Notice) (h : ps.prstHeld = false) :
    ps.raise n = { ps with notices := ps.notices ||| n.bit } := by
  simp [PortState.raise, h]

/-! ## The overrun (R185) -/

theorem writeReqCode_of_overrun {s : State} {p : Port} {w : Word} {r : Request} (hgo : w.getLsbD 15 = true)
    (hbusy : (s.port p).busy = some r) (hreleased : (s.port p).prstHeld = false) :
    writeReqCode p w s = Claims.withPort s p
      { s.port p with reqCode := w.extractLsb' 0 6, notices := (s.port p).notices ||| 0x0002#16 } := by
  have overrun : writeReqCode p w s =
      (s.modPort p fun ps => { ps with reqCode := w.extractLsb' 0 6 }).raiseAt p .reqOverrun := by
    simp [writeReqCode, hgo, hbusy]
  rw [overrun, State.raiseAt, State.modPort_eq_withPort s, Claims.withPort_modPort]
  exact congrArg (Claims.withPort s p) (PortState.raise_of_not_held _ hreleased)

/-- Settles O41: the overrun happens in the issuing port's window, and the transaction moves on there. -/
theorem aGoWhileBusyIsAnOverrun : Obligations.AGoWhileBusyIsAnOverrun := by
  intro s p w r hat hgo hbusy
  have reached : s.writesTo p 4 = true := (s.writesTo_iff p 4).mpr (and_assoc.mp hat)
  obtain ⟨⟨-, hreleased⟩, -⟩ := hat
  refine congrArg Host.Outcome.next (?_ : s.written p 4 (writeReqCode p w) = _)
  rw [State.written_of_writesTo _ reached, writeReqCode_of_overrun hgo hbusy hreleased, Claims.withPort_modPort]
  rfl

/-! ## The ID register (R199) -/

theorem readRegister_id (s : State) (p : Port) : readRegister s p 0 = 0x6121#16 := rfl

theorem writeRegister_id (s : State) (p : Port) (w : Word) : writeRegister p 0 w s = s := rfl

/-- A written word that does nothing itself moves at most its port's transaction. -/
theorem State.written_of_ignored {s : State} {p : Port} {n : BitVec 6} {f : State → State} (h : f s = s) :
    ∃ x : Transaction, s.written p n f = Claims.withPort s p { s.port p with transaction := x } := by
  cases hw : s.writesTo p n with
  | false => exact ⟨(s.port p).transaction, (State.written_of_not f hw).trans (Claims.withPort_port s p).symm⟩
  | true => exact ⟨.writing (nextRegister n), by rw [State.written_of_writesTo f hw, h, State.modPort_eq_withPort]⟩

/-- Settles O48: the ID register holds no state, and a word written to it is ignored. -/
theorem theIdReadsTheSameEverywhere : Obligations.TheIdReadsTheSameEverywhere := by
  refine ⟨readRegister_id, fun s p w => ?_⟩
  obtain ⟨x, moved⟩ := State.written_of_ignored (n := 0) (writeRegister_id s p w)
  exact ⟨x, congrArg Host.Outcome.next moved⟩

end Sys2Proof.Machine
